-- ==== Sys2Proof/Word.lean ====
section
/-! DEFINITION. The word type of the bay link: a byte. Every other quantity of the KD-40 is a count, a weight, a
height or a time, and is a `Nat` or an `Int` with the range its rule states. -/

namespace Sys2Proof

/-- One byte of a frame (R182). -/
abbrev Byte := BitVec 8

end Sys2Proof
end

