-- ==== Sys2Proof/Config.lean ====
section
/-! DEFINITION. The figures that the spec fixes for the part as such: sizes of its tables and lengths of its own
times. No value is left open by the spec, so no constant here is opaque. -/

namespace Sys2Proof.Config

/-- Places of the dip record queue (R149). -/
def recordPlaces : Nat := 48
/-- Records held at which RECORD QUEUE HIGH is set (R151). -/
def recordsHigh : Nat := 40
/-- Jigs the jig table holds (R64). -/
def jigPlaces : Nat := 64
/-- Accounts the job table holds (R131). -/
def jobPlaces : Nat := 96
/-- Longest payload of a frame (R1). -/
def maxPayload : Nat := 60
/-- Bytes left for items in one page of a reading (R183). -/
def pageBytes : Nat := 57
/-- Completion deadline of a save after its acceptance, in ms (R173). -/
def saveTime : Nat := 400
/-- Restart hold, in ms (R18). -/
def restartHold : Nat := 100
/-- Interval of the isolation stops, in ms (R17). -/
def isolationInterval : Nat := 100
/-- Poll interval in CONTINUOUS mode, in ms (R120). -/
def continuousPoll : Nat := 200
/-- Jig weigh timer, in ms (R77). -/
def jigWeighTime : Nat := 30000
/-- Bounds of a converted mass, in du (R51). -/
def massMin : Int := -10000
/-- See `massMin`. -/
def massMax : Int := 400000
/-- Largest kettle balance, in du (R138). -/
def balanceMax : Nat := 999999999
/-- Largest jig tare, in du (R64). -/
def tareMax : Nat := 100000
/-- Largest two-byte count (R23, R64, R131). -/
def count16Max : Nat := 65535
/-- Largest four-byte count (R64, R131, R138). -/
def count32Max : Nat := 4294967295
/-- Bound of the reconciliation difference D, in du (R128). -/
def differenceMax : Int := 2000000000
/-- Buoyancy factor taken when a profile gives 0 (R62). -/
def defaultBuoyancy : Nat := 841

end Sys2Proof.Config
end

