-- ==== Sys2Proof/Syntax.lean ====
section
/-! DEFINITION. The commands the KD-40 takes: one constructor of `Instr` per row of spec/opcode_table.json, and the
records their operands are made of. A request's fields stand as numbers of the wire (R182): an enumeration is its
number, a station address held as none is 0, so that a value with no meaning reaches the rule that refuses it. -/

namespace Sys2Proof

/-- The three downstream ports (00_scope.md 1.3). -/
inductive Port where
  | a | b | k
  deriving DecidableEq, Repr

/-- The two hoists: hoist 1 on port A, hoist 2 on port B (00_scope.md 4.3). -/
inductive Hoist where
  | h1 | h2
  deriving DecidableEq, Repr

/-- The port a hoist's station is on. -/
def Hoist.port : Hoist → Port
  | .h1 => .a
  | .h2 => .b

/-- The other hoist. -/
def Hoist.other : Hoist → Hoist
  | .h1 => .h2
  | .h2 => .h1

/-- The number of a hoist (00_scope.md 4.3). -/
def Hoist.num : Hoist → Nat
  | .h1 => 1
  | .h2 => 2

/-- The two figures of the bath monitor that go stale (R123). -/
inductive BathFigure where
  | temperature | level
  deriving DecidableEq, Repr

/-- What caused a device reset (R177). -/
inductive RestartCause where
  | powerOn | resetLine
  deriving DecidableEq, Repr

/-- A frame (R182), without its check, which is computed afresh for every frame sent (R21). -/
structure Frame where
  dest      : Byte
  src       : Byte
  /-- Kind: REPLY when set, REQUEST when clear. -/
  reply     : Bool
  origin    : Bool
  limited   : Bool
  /-- Attention value, 0 to 4. -/
  attention : Nat
  seq       : Byte
  code      : Byte
  payload   : List Byte
  deriving DecidableEq, Repr

/-- Who asks: the source address and sequence number of a management request, to which its reply goes (R165). -/
structure Req where
  source : Byte
  seq    : Byte
  deriving DecidableEq, Repr

/-- A forwarding window as LOAD WINDOWS carries it and as a port holds it (R2). -/
structure Window where
  base  : Nat
  limit : Nat
  deriving DecidableEq, Repr

/-- The fields of LOAD TRAP after the entry number (R27). -/
structure TrapArgs where
  enabled    : Nat
  destValue  : Byte
  destMask   : Byte
  codeValue  : Byte
  codeMask   : Byte
  firstValue : Byte
  firstMask  : Byte
  condition  : Nat
  action     : Nat
  deriving DecidableEq, Repr

/-- The six settings of LOAD HOIST SETTINGS, the rated up and down speeds apart (R29). -/
structure HoistArgs where
  station        : Nat
  ratedUp        : Nat
  ratedDown      : Nat
  ratedTravel    : Nat
  creep          : Nat
  offset         : Int
  commandTimeout : Nat
  deriving DecidableEq, Repr

/-- A calibration record (R44). -/
structure CalRecord where
  zero          : Int
  gain          : Nat
  trackRange    : Nat
  zeroBand      : Nat
  shift         : Nat
  settleBand    : Nat
  settleCount   : Nat
  overThreshold : Nat
  overHyst      : Nat
  deriving DecidableEq, Repr

/-- A dip profile (R61). -/
structure Profile where
  approachSpeed  : Nat
  entrySpeed     : Nat
  withdrawSpeed  : Nat
  drainSpeed     : Nat
  coverDepth     : Nat
  minDwell       : Nat
  drainDwell     : Nat
  weighTimeout   : Nat
  buoyancy       : Nat
  floatMargin    : Nat
  groundFraction : Nat
  deriving DecidableEq, Repr

/-- The fields of TAG LOAD (R68). -/
structure TagArgs where
  hoist      : Nat
  job        : Nat
  jig        : Nat
  profile    : Nat
  loadDepth  : Nat
  workHeight : Nat
  firstZone  : Nat
  lastZone   : Nat
  token      : Nat
  deriving DecidableEq, Repr

/-- One zone record of LOAD ZONE MAP (R101). -/
structure ZoneArgs where
  inService : Nat
  floor     : Int
  ceiling   : Int
  deriving DecidableEq, Repr

/-- The items of LOAD ZONE MAP (R101): four zone records in zone order, then the common figures. -/
structure ZoneMapArgs where
  z1         : ZoneArgs
  z2         : ZoneArgs
  z3         : ZoneArgs
  z4         : ZoneArgs
  rim        : Nat
  margin     : Nat
  clearance  : Nat
  emptyLevel : Int
  massPerMm  : Nat
  tilt       : Nat
  deriving DecidableEq, Repr

/-- The fields of LOAD BATH SETTINGS (R118). -/
structure BathArgs where
  station      : Nat
  low          : Nat
  high         : Nat
  hysteresis   : Nat
  staleTime    : Nat
  pollInterval : Nat
  reconcile    : Nat
  deriving DecidableEq, Repr

/-- The commands: one constructor per row of spec/opcode_table.json, in the table's order. -/
inductive Instr where
  | upstreamFrame (bytes : List Byte)
  | downstreamFrame (p : Port) (bytes : List Byte)
  | replyTimerExpiry (p : Port)
  | recoveryTimerExpiry (p : Port)
  | isolationStopTimerExpiry (h : Hoist)
  | restartHoldExpiry (p : Port)
  | commandTimerExpiry (h : Hoist)
  | drainDwellExpiry (h : Hoist)
  | weighTimerExpiry (h : Hoist)
  | jigWeighTimerExpiry (h : Hoist)
  | pollTimerExpiry
  | staleExpiry (fig : BathFigure)
  | saveCompletion
  | deviceReset (cause : RestartCause) (service : Bool)
  | unassignedManagementCode (q : Req) (code : Byte) (payload : List Byte)
  | readStatus (q : Req) (page : Nat)
  | setAddress (q : Req) (addr : Nat)
  | saveTables (q : Req)
  | loadWindows (q : Req) (wa : Window) (wb : Window) (wk : Window)
  | readPortStatus (q : Req) (port : Nat) (page : Nat)
  | setPortTiming (q : Req) (port : Nat) (reply : Nat) (recovery : Nat) (strict : Nat)
  | restartSegment (q : Req) (port : Nat)
  | loadTrap (q : Req) (entry : Nat) (x : TrapArgs)
  | readTrap (q : Req) (entry : Nat) (page : Nat)
  | loadHoistSettings (q : Req) (hoist : Nat) (x : HoistArgs)
  | setOperatorCap (q : Req) (hoist : Nat) (cap : Nat)
  | readMotion (q : Req) (page : Nat)
  | loadCalibration (q : Req) (hoist : Nat) (x : CalRecord)
  | lockCalibration (q : Req)
  | rezeroHook (q : Req) (hoist : Nat)
  | readWeight (q : Req) (hoist : Nat) (page : Nat)
  | loadProfile (q : Req) (number : Nat) (x : Profile)
  | removeProfile (q : Req) (number : Nat)
  | readProfile (q : Req) (number : Nat) (page : Nat)
  | loadJig (q : Req) (jig : Nat) (tare : Nat) (allowance : Nat)
  | withdrawJig (q : Req) (jig : Nat)
  | returnJig (q : Req) (jig : Nat)
  | removeJig (q : Req) (jig : Nat)
  | readJig (q : Req) (jig : Nat) (page : Nat)
  | tagLoad (q : Req) (x : TagArgs)
  | cancelLoad (q : Req) (hoist : Nat)
  | setMaintenancePermit (q : Req) (hoist : Nat) (value : Nat)
  | weighJig (q : Req) (hoist : Nat) (jig : Nat)
  | readContext (q : Req) (hoist : Nat) (page : Nat)
  | loadZoneMap (q : Req) (x : ZoneMapArgs)
  | setDrossCeiling (q : Req) (zone : Nat) (ceiling : Int)
  | setZoneService (q : Req) (zone : Nat) (value : Nat)
  | readZones (q : Req) (page : Nat)
  | loadBathSettings (q : Req) (x : BathArgs)
  | readBath (q : Req) (page : Nat)
  | openJob (q : Req) (job : Nat) (rMin : Nat) (rMax : Nat) (hold : Nat)
  | setJobBand (q : Req) (job : Nat) (rMin : Nat) (rMax : Nat) (hold : Nat)
  | resumeJob (q : Req) (job : Nat)
  | closeJob (q : Req) (job : Nat)
  | releaseJob (q : Req) (job : Nat)
  | readJob (q : Req) (job : Nat) (page : Nat)
  | zincAdded (q : Req) (mass : Nat)
  | drossRemoved (q : Req) (mass : Nat)
  | ashRemoved (q : Req) (mass : Nat)
  | setBalance (q : Req) (value : Nat)
  | setBalanceToLevel (q : Req)
  | readBalance (q : Req) (page : Nat)
  | peekRecord (q : Req)
  | takeRecord (q : Req)
  | readQueue (q : Req) (page : Nat)
  | readNotices (q : Req)
  | clearNotices (q : Req) (kinds : List Nat)
  | setNoticeLevels (q : Req) (group : Nat) (level : Nat) (enable : Nat)
  deriving DecidableEq, Repr

end Sys2Proof
end

