-- ==== Sys2Proof/Decode.lean ====
section
/-! DEFINITION. Chapter 12: frames as bytes, the code tables, and the reading of a management request out of its
payload. `parseFrame` and `decodeManagement` are total on any bytes; what they do not accept is `none` (a damaged
frame of R1, a request that R167 answers BAD REQUEST). After each stands its inverse. -/

namespace Sys2Proof

/-! ## Numbers of more than one byte -/

/-- A number sent in `w` bytes, high byte first (R182). -/
def beBytes : Nat → Nat → List Byte
  | 0, _ => []
  | w + 1, n => beBytes w (n / 256) ++ [BitVec.ofNat 8 n]

/-- A signed number sent in `w` bytes, two's complement (R182). -/
def beInt (w : Nat) (x : Int) : List Byte := beBytes w (BitVec.ofInt (8 * w) x).toNat

/-- The number that bytes hold, high byte first (R182). -/
def fromBE (bs : List Byte) : Nat := bs.foldl (fun acc b => acc * 256 + b.toNat) 0

/-- The unsigned field of `w` bytes at offset `i` of a payload. -/
def fieldNat (p : List Byte) (i w : Nat) : Nat := fromBE ((p.drop i).take w)

/-- The byte at offset `i` of a payload, 0 when there is none. -/
def fieldByte (p : List Byte) (i : Nat) : Byte := (p[i]?).getD 0

/-- The signed field of `w` bytes at offset `i` of a payload. -/
def fieldInt (p : List Byte) (i w : Nat) : Int := (BitVec.ofNat (8 * w) (fieldNat p i w)).toInt

/-! ## The check and the frame -/

/-- One bit of the CRC-16 with polynomial 0x1021, not reflected (R1). -/
def crcBit (c : BitVec 16) : BitVec 16 :=
  if c.getLsbD 15 then (c <<< 1) ^^^ 0x1021#16 else c <<< 1

/-- One byte of the CRC-16. -/
def crcByte (c : BitVec 16) (b : Byte) : BitVec 16 :=
  crcBit (crcBit (crcBit (crcBit (crcBit (crcBit (crcBit (crcBit (c ^^^ (b.setWidth 16 <<< 8)))))))))

/-- The check of R1: initial value 0xFFFF, no final inversion. -/
def crc16 (bs : List Byte) : BitVec 16 := bs.foldl crcByte 0xFFFF#16

/-- Byte 2 of the header (12.1). -/
def flagByte (f : Frame) : Byte :=
  BitVec.ofNat 8 ((if f.reply then 128 else 0) + (if f.origin then 64 else 0) + (if f.limited then 32 else 0)
    + f.attention % 8)

/-- The header and payload of a frame, which its check is taken over (12.1). -/
def frameBody (f : Frame) : List Byte :=
  [f.dest, f.src, flagByte f, f.seq, f.code, BitVec.ofNat 8 f.payload.length] ++ f.payload

/-- A frame as it goes on the wire, its check computed afresh (R21, 12.1). -/
def encodeFrame (f : Frame) : List Byte := frameBody f ++ beBytes 2 (crc16 (frameBody f)).toNat

/-- The frame that received bytes hold, or none when it is damaged by any test of R1. -/
def parseFrame (bytes : List Byte) : Option Frame :=
  match bytes with
  | dest :: src :: flags :: seq :: code :: len :: rest =>
    if len.toNat ≤ Config.maxPayload ∧ rest.length = len.toNat + 2
        ∧ fromBE (rest.drop len.toNat) = (crc16 (bytes.take (6 + len.toNat))).toNat then
      some { dest, src, reply := flags.getLsbD 7, origin := flags.getLsbD 6, limited := flags.getLsbD 5,
             attention := flags.toNat % 8, seq, code, payload := rest.take len.toNat }
    else none
  | _ => none

/-! ## Codes (12.2) -/

/-- STATUS to a station. -/
def codeStatus : Byte := 0x30#8
/-- MOTION to a hoist station. -/
def codeMotion : Byte := 0x31#8
/-- STATION RESTART (R18). -/
def codeStationRestart : Byte := 0x3F#8
/-- BATH READ to the bath station (R118). -/
def codeBathRead : Byte := 0x50#8

/-- The local codes, with the rule that makes each (R11). -/
inductive LocalCode where
  | noRoute | portBusy | noReply | replyDamaged | portIsolated | portRestarting | trapped
  deriving DecidableEq, Repr

/-- Byte values of the local codes (12.2). -/
def localByte : LocalCode → Byte
  | .noRoute => 0x81#8
  | .portBusy => 0x82#8
  | .noReply => 0x83#8
  | .replyDamaged => 0x84#8
  | .portIsolated => 0x85#8
  | .portRestarting => 0x86#8
  | .trapped => 0x87#8

/-- The fourteen values of a management reply's status byte (R166). -/
inductive Status where
  | done | busy | notFound | full | duplicate | outOfRange | locked | inUse | inBath | held | pairMismatch
  | notCalibrated | notAllowed | badRequest
  deriving DecidableEq, Repr

/-- Byte values of the statuses (12.2). -/
def statusByte : Status → Byte
  | .done => 0x00#8
  | .busy => 0x01#8
  | .notFound => 0x02#8
  | .full => 0x03#8
  | .duplicate => 0x04#8
  | .outOfRange => 0x05#8
  | .locked => 0x06#8
  | .inUse => 0x07#8
  | .inBath => 0x08#8
  | .held => 0x09#8
  | .pairMismatch => 0x0A#8
  | .notCalibrated => 0x0B#8
  | .notAllowed => 0x0C#8
  | .badRequest => 0x0D#8

/-- Whether a payload of `len` bytes is one that management code `code` admits; false for a code not in use, so for
every code outside 0x80 to 0xBF and every unassigned one (R167, 12.2). -/
def admits (code : Byte) (len : Nat) : Bool :=
  match code.toNat with
  | 0x80 => len ≤ 1 | 0x81 => len == 1 | 0x82 => len == 0 | 0x83 => len == 6
  | 0x84 => len == 1 || len == 2 | 0x85 => len == 5 | 0x86 => len == 1
  | 0x88 => len == 10 | 0x89 => len == 1 || len == 2 | 0x8A => len == 14 | 0x8B => len == 3 | 0x8C => len ≤ 1
  | 0x90 => len == 19 | 0x91 => len == 0 | 0x92 => len == 1 | 0x93 => len == 1 || len == 2
  | 0x94 => len == 0 | 0x95 => len ≤ 19 | 0x96 => len == 3
  | 0x98 => len == 23 | 0x99 => len == 1 | 0x9A => len == 1 || len == 2
  | 0x9C => len == 7 | 0x9D => len == 2 | 0x9E => len == 2 | 0x9F => len == 2 | 0xA0 => len == 2 || len == 3
  | 0xA2 => len == 14 | 0xA3 => len == 1 | 0xA4 => len == 2 | 0xA5 => len == 3 | 0xA6 => len == 1 || len == 2
  | 0xA8 => len == 32 | 0xA9 => len == 3 | 0xAA => len == 2 | 0xAB => len ≤ 1
  | 0xAC => len == 13 | 0xAD => len ≤ 1
  | 0xB0 => len == 8 | 0xB1 => len == 8 | 0xB2 => len == 3 | 0xB3 => len == 3 | 0xB4 => len == 3
  | 0xB5 => len == 3 || len == 4
  | 0xB6 => len == 4 | 0xB7 => len == 4 | 0xB8 => len == 4 | 0xB9 => len == 4
  | 0xBA => len == 0 | 0xBB => len ≤ 1
  | 0xBC => len == 0 | 0xBD => len == 0 | 0xBE => len ≤ 1
  | _ => false

/-! ## Management requests: payload to command -/

/-- The page number of a reading request: its last byte, taken as 0 when absent (R183). -/
def pageAt (p : List Byte) (i : Nat) : Nat := fieldNat p i 1

/-- The calibration record in a LOAD CALIBRATION payload, after the hoist number (R44). -/
def decodeCal (p : List Byte) : CalRecord :=
  { zero := fieldInt p 1 3, gain := fieldNat p 4 2, trackRange := fieldNat p 6 2, zeroBand := fieldNat p 8 2,
    shift := fieldNat p 10 1, settleBand := fieldNat p 11 2, settleCount := fieldNat p 13 1,
    overThreshold := fieldNat p 14 3, overHyst := fieldNat p 17 2 }

/-- The profile in a LOAD PROFILE payload, after the profile number (R61). -/
def decodeProfile (p : List Byte) : Profile :=
  { approachSpeed := fieldNat p 1 2, entrySpeed := fieldNat p 3 2, withdrawSpeed := fieldNat p 5 2,
    drainSpeed := fieldNat p 7 2, coverDepth := fieldNat p 9 2, minDwell := fieldNat p 11 2,
    drainDwell := fieldNat p 13 2, weighTimeout := fieldNat p 15 2, buoyancy := fieldNat p 17 2,
    floatMargin := fieldNat p 19 2, groundFraction := fieldNat p 21 2 }

/-- The fields of a TAG LOAD payload (R68). -/
def decodeTag (p : List Byte) : TagArgs :=
  { hoist := fieldNat p 0 1, job := fieldNat p 1 3, jig := fieldNat p 4 2, profile := fieldNat p 6 1,
    loadDepth := fieldNat p 7 2, workHeight := fieldNat p 9 2, firstZone := fieldNat p 11 1,
    lastZone := fieldNat p 12 1, token := fieldNat p 13 1 }

/-- One zone record of a LOAD ZONE MAP payload at offset `i` (R101). -/
def decodeZone (p : List Byte) (i : Nat) : ZoneArgs :=
  { inService := fieldNat p i 1, floor := fieldInt p (i + 1) 2, ceiling := fieldInt p (i + 3) 2 }

/-- The items of a LOAD ZONE MAP payload (R101). -/
def decodeZoneMap (p : List Byte) : ZoneMapArgs :=
  { z1 := decodeZone p 0, z2 := decodeZone p 5, z3 := decodeZone p 10, z4 := decodeZone p 15,
    rim := fieldNat p 20 2, margin := fieldNat p 22 2, clearance := fieldNat p 24 2,
    emptyLevel := fieldInt p 26 2, massPerMm := fieldNat p 28 2, tilt := fieldNat p 30 2 }

/-- The settings of a LOAD HOIST SETTINGS payload, after the hoist number (R29). -/
def decodeHoist (p : List Byte) : HoistArgs :=
  { station := fieldNat p 1 1, ratedUp := fieldNat p 2 2, ratedDown := fieldNat p 4 2,
    ratedTravel := fieldNat p 6 2, creep := fieldNat p 8 2, offset := fieldInt p 10 2,
    commandTimeout := fieldNat p 12 2 }

/-- The settings of a LOAD BATH SETTINGS payload (R118). -/
def decodeBath (p : List Byte) : BathArgs :=
  { station := fieldNat p 0 1, low := fieldNat p 1 2, high := fieldNat p 3 2, hysteresis := fieldNat p 5 2,
    staleTime := fieldNat p 7 1, pollInterval := fieldNat p 8 1, reconcile := fieldNat p 9 4 }

/-- The fields of a LOAD TRAP payload, after the entry number (R27). -/
def decodeTrap (p : List Byte) : TrapArgs :=
  { enabled := fieldNat p 1 1, destValue := fieldByte p 2, destMask := fieldByte p 3, codeValue := fieldByte p 4,
    codeMask := fieldByte p 5, firstValue := fieldByte p 6, firstMask := fieldByte p 7,
    condition := fieldNat p 8 1, action := fieldNat p 9 1 }

/-- The window at offset `i` of a LOAD WINDOWS payload (R3). -/
def decodeWindow (p : List Byte) (i : Nat) : Window :=
  { base := fieldNat p i 1, limit := fieldNat p (i + 1) 1 }

/-- The command of a management request whose payload length its code admits; `none` where the form check of R167
fails. Request fields follow the order of the owning rule, the number it names first (R182). -/
def decodeManagement (q : Req) (code : Byte) (p : List Byte) : Option Instr :=
  if admits code p.length then
    match code.toNat with
    | 0x80 => some (.readStatus q (pageAt p 0))
    | 0x81 => some (.setAddress q (fieldNat p 0 1))
    | 0x82 => some (.saveTables q)
    | 0x83 => some (.loadWindows q (decodeWindow p 0) (decodeWindow p 2) (decodeWindow p 4))
    | 0x84 => some (.readPortStatus q (fieldNat p 0 1) (pageAt p 1))
    | 0x85 => some (.setPortTiming q (fieldNat p 0 1) (fieldNat p 1 1) (fieldNat p 2 2) (fieldNat p 4 1))
    | 0x86 => some (.restartSegment q (fieldNat p 0 1))
    | 0x88 => some (.loadTrap q (fieldNat p 0 1) (decodeTrap p))
    | 0x89 => some (.readTrap q (fieldNat p 0 1) (pageAt p 1))
    | 0x8A => some (.loadHoistSettings q (fieldNat p 0 1) (decodeHoist p))
    | 0x8B => some (.setOperatorCap q (fieldNat p 0 1) (fieldNat p 1 2))
    | 0x8C => some (.readMotion q (pageAt p 0))
    | 0x90 => some (.loadCalibration q (fieldNat p 0 1) (decodeCal p))
    | 0x91 => some (.lockCalibration q)
    | 0x92 => some (.rezeroHook q (fieldNat p 0 1))
    | 0x93 => some (.readWeight q (fieldNat p 0 1) (pageAt p 1))
    | 0x94 => some (.readNotices q)
    | 0x95 => some (.clearNotices q (p.map BitVec.toNat))
    | 0x96 => some (.setNoticeLevels q (fieldNat p 0 1) (fieldNat p 1 1) (fieldNat p 2 1))
    | 0x98 => some (.loadProfile q (fieldNat p 0 1) (decodeProfile p))
    | 0x99 => some (.removeProfile q (fieldNat p 0 1))
    | 0x9A => some (.readProfile q (fieldNat p 0 1) (pageAt p 1))
    | 0x9C => some (.loadJig q (fieldNat p 0 2) (fieldNat p 2 3) (fieldNat p 5 2))
    | 0x9D => some (.withdrawJig q (fieldNat p 0 2))
    | 0x9E => some (.returnJig q (fieldNat p 0 2))
    | 0x9F => some (.removeJig q (fieldNat p 0 2))
    | 0xA0 => some (.readJig q (fieldNat p 0 2) (pageAt p 2))
    | 0xA2 => some (.tagLoad q (decodeTag p))
    | 0xA3 => some (.cancelLoad q (fieldNat p 0 1))
    | 0xA4 => some (.setMaintenancePermit q (fieldNat p 0 1) (fieldNat p 1 1))
    | 0xA5 => some (.weighJig q (fieldNat p 0 1) (fieldNat p 1 2))
    | 0xA6 => some (.readContext q (fieldNat p 0 1) (pageAt p 1))
    | 0xA8 => some (.loadZoneMap q (decodeZoneMap p))
    | 0xA9 => some (.setDrossCeiling q (fieldNat p 0 1) (fieldInt p 1 2))
    | 0xAA => some (.setZoneService q (fieldNat p 0 1) (fieldNat p 1 1))
    | 0xAB => some (.readZones q (pageAt p 0))
    | 0xAC => some (.loadBathSettings q (decodeBath p))
    | 0xAD => some (.readBath q (pageAt p 0))
    | 0xB0 => some (.openJob q (fieldNat p 0 3) (fieldNat p 3 2) (fieldNat p 5 2) (fieldNat p 7 1))
    | 0xB1 => some (.setJobBand q (fieldNat p 0 3) (fieldNat p 3 2) (fieldNat p 5 2) (fieldNat p 7 1))
    | 0xB2 => some (.resumeJob q (fieldNat p 0 3))
    | 0xB3 => some (.closeJob q (fieldNat p 0 3))
    | 0xB4 => some (.releaseJob q (fieldNat p 0 3))
    | 0xB5 => some (.readJob q (fieldNat p 0 3) (pageAt p 3))
    | 0xB6 => some (.zincAdded q (fieldNat p 0 4))
    | 0xB7 => some (.drossRemoved q (fieldNat p 0 4))
    | 0xB8 => some (.ashRemoved q (fieldNat p 0 4))
    | 0xB9 => some (.setBalance q (fieldNat p 0 4))
    | 0xBA => some (.setBalanceToLevel q)
    | 0xBB => some (.readBalance q (pageAt p 0))
    | 0xBC => some (.peekRecord q)
    | 0xBD => some (.takeRecord q)
    | 0xBE => some (.readQueue q (pageAt p 0))
    | _ => none
  else none

/-! ## Management requests: command to code and payload -/

/-- The management code of a command (12.2); `none` for a command that is not a management request in use. -/
def managementCode : Instr → Option Byte
  | .readStatus .. => some 0x80#8 | .setAddress .. => some 0x81#8 | .saveTables .. => some 0x82#8
  | .loadWindows .. => some 0x83#8 | .readPortStatus .. => some 0x84#8 | .setPortTiming .. => some 0x85#8
  | .restartSegment .. => some 0x86#8 | .loadTrap .. => some 0x88#8 | .readTrap .. => some 0x89#8
  | .loadHoistSettings .. => some 0x8A#8 | .setOperatorCap .. => some 0x8B#8 | .readMotion .. => some 0x8C#8
  | .loadCalibration .. => some 0x90#8 | .lockCalibration .. => some 0x91#8 | .rezeroHook .. => some 0x92#8
  | .readWeight .. => some 0x93#8 | .readNotices .. => some 0x94#8 | .clearNotices .. => some 0x95#8
  | .setNoticeLevels .. => some 0x96#8 | .loadProfile .. => some 0x98#8 | .removeProfile .. => some 0x99#8
  | .readProfile .. => some 0x9A#8 | .loadJig .. => some 0x9C#8 | .withdrawJig .. => some 0x9D#8
  | .returnJig .. => some 0x9E#8 | .removeJig .. => some 0x9F#8 | .readJig .. => some 0xA0#8
  | .tagLoad .. => some 0xA2#8 | .cancelLoad .. => some 0xA3#8 | .setMaintenancePermit .. => some 0xA4#8
  | .weighJig .. => some 0xA5#8 | .readContext .. => some 0xA6#8 | .loadZoneMap .. => some 0xA8#8
  | .setDrossCeiling .. => some 0xA9#8 | .setZoneService .. => some 0xAA#8 | .readZones .. => some 0xAB#8
  | .loadBathSettings .. => some 0xAC#8 | .readBath .. => some 0xAD#8 | .openJob .. => some 0xB0#8
  | .setJobBand .. => some 0xB1#8 | .resumeJob .. => some 0xB2#8 | .closeJob .. => some 0xB3#8
  | .releaseJob .. => some 0xB4#8 | .readJob .. => some 0xB5#8 | .zincAdded .. => some 0xB6#8
  | .drossRemoved .. => some 0xB7#8 | .ashRemoved .. => some 0xB8#8 | .setBalance .. => some 0xB9#8
  | .setBalanceToLevel .. => some 0xBA#8 | .readBalance .. => some 0xBB#8 | .peekRecord .. => some 0xBC#8
  | .takeRecord .. => some 0xBD#8 | .readQueue .. => some 0xBE#8
  | .upstreamFrame .. => none | .downstreamFrame .. => none | .replyTimerExpiry .. => none
  | .recoveryTimerExpiry .. => none | .isolationStopTimerExpiry .. => none | .restartHoldExpiry .. => none
  | .commandTimerExpiry .. => none | .drainDwellExpiry .. => none | .weighTimerExpiry .. => none
  | .jigWeighTimerExpiry .. => none | .pollTimerExpiry => none | .staleExpiry .. => none
  | .saveCompletion => none | .deviceReset .. => none | .unassignedManagementCode .. => none

/-- The requester of a management command; the all-zero one for the rest. -/
def requester : Instr → Req
  | .readStatus q .. => q | .setAddress q .. => q | .saveTables q => q | .loadWindows q .. => q
  | .readPortStatus q .. => q | .setPortTiming q .. => q | .restartSegment q .. => q | .loadTrap q .. => q
  | .readTrap q .. => q | .loadHoistSettings q .. => q | .setOperatorCap q .. => q | .readMotion q .. => q
  | .loadCalibration q .. => q | .lockCalibration q => q | .rezeroHook q .. => q | .readWeight q .. => q
  | .readNotices q => q | .clearNotices q .. => q | .setNoticeLevels q .. => q | .loadProfile q .. => q
  | .removeProfile q .. => q | .readProfile q .. => q | .loadJig q .. => q | .withdrawJig q .. => q
  | .returnJig q .. => q | .removeJig q .. => q | .readJig q .. => q | .tagLoad q .. => q
  | .cancelLoad q .. => q | .setMaintenancePermit q .. => q | .weighJig q .. => q | .readContext q .. => q
  | .loadZoneMap q .. => q | .setDrossCeiling q .. => q | .setZoneService q .. => q | .readZones q .. => q
  | .loadBathSettings q .. => q | .readBath q .. => q | .openJob q .. => q | .setJobBand q .. => q
  | .resumeJob q .. => q | .closeJob q .. => q | .releaseJob q .. => q | .readJob q .. => q
  | .zincAdded q .. => q | .drossRemoved q .. => q | .ashRemoved q .. => q | .setBalance q .. => q
  | .setBalanceToLevel q => q | .readBalance q .. => q | .peekRecord q => q | .takeRecord q => q
  | .readQueue q .. => q | .unassignedManagementCode q .. => q
  | .upstreamFrame .. => ⟨0, 0⟩ | .downstreamFrame .. => ⟨0, 0⟩ | .replyTimerExpiry .. => ⟨0, 0⟩
  | .recoveryTimerExpiry .. => ⟨0, 0⟩ | .isolationStopTimerExpiry .. => ⟨0, 0⟩ | .restartHoldExpiry .. => ⟨0, 0⟩
  | .commandTimerExpiry .. => ⟨0, 0⟩ | .drainDwellExpiry .. => ⟨0, 0⟩ | .weighTimerExpiry .. => ⟨0, 0⟩
  | .jigWeighTimerExpiry .. => ⟨0, 0⟩ | .pollTimerExpiry => ⟨0, 0⟩ | .staleExpiry .. => ⟨0, 0⟩
  | .saveCompletion => ⟨0, 0⟩ | .deviceReset .. => ⟨0, 0⟩

/-- The eighteen bytes of a calibration record (R44). -/
def calBytes (x : CalRecord) : List Byte :=
  beInt 3 x.zero ++ beBytes 2 x.gain ++ beBytes 2 x.trackRange ++ beBytes 2 x.zeroBand ++ beBytes 1 x.shift
    ++ beBytes 2 x.settleBand ++ beBytes 1 x.settleCount ++ beBytes 3 x.overThreshold ++ beBytes 2 x.overHyst

/-- The fields of a profile, each its own item (R61). -/
def profileItems (x : Profile) : List (List Byte) :=
  [beBytes 2 x.approachSpeed, beBytes 2 x.entrySpeed, beBytes 2 x.withdrawSpeed, beBytes 2 x.drainSpeed,
   beBytes 2 x.coverDepth, beBytes 2 x.minDwell, beBytes 2 x.drainDwell, beBytes 2 x.weighTimeout,
   beBytes 2 x.buoyancy, beBytes 2 x.floatMargin, beBytes 2 x.groundFraction]

/-- The fourteen bytes of a tag (R68). -/
def tagBytes (x : TagArgs) : List Byte :=
  beBytes 1 x.hoist ++ beBytes 3 x.job ++ beBytes 2 x.jig ++ beBytes 1 x.profile ++ beBytes 2 x.loadDepth
    ++ beBytes 2 x.workHeight ++ beBytes 1 x.firstZone ++ beBytes 1 x.lastZone ++ beBytes 1 x.token

/-- The five bytes of a zone record (R101). -/
def zoneBytes (x : ZoneArgs) : List Byte := beBytes 1 x.inService ++ beInt 2 x.floor ++ beInt 2 x.ceiling

/-- The payload of a management command (R182), the page number of a reading request always given. -/
def managementPayload : Instr → List Byte
  | .readStatus _ g | .readMotion _ g | .readZones _ g | .readBath _ g | .readBalance _ g | .readQueue _ g =>
    beBytes 1 g
  | .setAddress _ a => beBytes 1 a
  | .loadWindows _ wa wb wk =>
    beBytes 1 wa.base ++ beBytes 1 wa.limit ++ beBytes 1 wb.base ++ beBytes 1 wb.limit ++ beBytes 1 wk.base
      ++ beBytes 1 wk.limit
  | .readPortStatus _ n g | .readTrap _ n g | .readWeight _ n g | .readProfile _ n g | .readContext _ n g =>
    beBytes 1 n ++ beBytes 1 g
  | .setPortTiming _ n t r x => beBytes 1 n ++ beBytes 1 t ++ beBytes 2 r ++ beBytes 1 x
  | .restartSegment _ n | .rezeroHook _ n | .removeProfile _ n | .cancelLoad _ n => beBytes 1 n
  | .loadTrap _ n x =>
    beBytes 1 n ++ beBytes 1 x.enabled ++ [x.destValue, x.destMask, x.codeValue, x.codeMask, x.firstValue,
      x.firstMask] ++ beBytes 1 x.condition ++ beBytes 1 x.action
  | .loadHoistSettings _ n x =>
    beBytes 1 n ++ beBytes 1 x.station ++ beBytes 2 x.ratedUp ++ beBytes 2 x.ratedDown ++ beBytes 2 x.ratedTravel
      ++ beBytes 2 x.creep ++ beInt 2 x.offset ++ beBytes 2 x.commandTimeout
  | .setOperatorCap _ n c => beBytes 1 n ++ beBytes 2 c
  | .loadCalibration _ n x => beBytes 1 n ++ calBytes x
  | .clearNotices _ ks => ks.map (BitVec.ofNat 8)
  | .setNoticeLevels _ n l e => beBytes 1 n ++ beBytes 1 l ++ beBytes 1 e
  | .loadProfile _ n x => beBytes 1 n ++ (profileItems x).flatten
  | .loadJig _ j t a => beBytes 2 j ++ beBytes 3 t ++ beBytes 2 a
  | .withdrawJig _ j | .returnJig _ j | .removeJig _ j => beBytes 2 j
  | .readJig _ j g => beBytes 2 j ++ beBytes 1 g
  | .tagLoad _ x => tagBytes x
  | .setMaintenancePermit _ n v | .setZoneService _ n v => beBytes 1 n ++ beBytes 1 v
  | .weighJig _ n j => beBytes 1 n ++ beBytes 2 j
  | .loadZoneMap _ x =>
    zoneBytes x.z1 ++ zoneBytes x.z2 ++ zoneBytes x.z3 ++ zoneBytes x.z4 ++ beBytes 2 x.rim ++ beBytes 2 x.margin
      ++ beBytes 2 x.clearance ++ beInt 2 x.emptyLevel ++ beBytes 2 x.massPerMm ++ beBytes 2 x.tilt
  | .setDrossCeiling _ z c => beBytes 1 z ++ beInt 2 c
  | .loadBathSettings _ x =>
    beBytes 1 x.station ++ beBytes 2 x.low ++ beBytes 2 x.high ++ beBytes 2 x.hysteresis ++ beBytes 1 x.staleTime
      ++ beBytes 1 x.pollInterval ++ beBytes 4 x.reconcile
  | .openJob _ j lo hi n | .setJobBand _ j lo hi n => beBytes 3 j ++ beBytes 2 lo ++ beBytes 2 hi ++ beBytes 1 n
  | .resumeJob _ j | .closeJob _ j | .releaseJob _ j => beBytes 3 j
  | .readJob _ j g => beBytes 3 j ++ beBytes 1 g
  | .zincAdded _ m | .drossRemoved _ m | .ashRemoved _ m | .setBalance _ m => beBytes 4 m
  | .unassignedManagementCode _ _ p => p
  | .saveTables .. | .lockCalibration .. | .readNotices .. | .setBalanceToLevel .. | .peekRecord ..
  | .takeRecord .. => []
  | .upstreamFrame .. | .downstreamFrame .. | .replyTimerExpiry .. | .recoveryTimerExpiry ..
  | .isolationStopTimerExpiry .. | .restartHoldExpiry .. | .commandTimerExpiry .. | .drainDwellExpiry ..
  | .weighTimerExpiry .. | .jigWeighTimerExpiry .. | .pollTimerExpiry | .staleExpiry .. | .saveCompletion
  | .deviceReset .. => []

/-- The command a table word spells. spec/opcode_table.json gives no bits to any row, so there is none. -/
def decodeTableWord (_nbits _w : Nat) : Option Instr := none

end Sys2Proof
end

