-- ==== Sys2Proof/Machine/State.lean ====
section
/-! DEFINITION. The state of the KD-40 (00_scope.md 2, the state each block owns), its reset value, and the reasons a
step can stop. Everything is plain data. A timer is its deadline against the time counter, or `none` when stopped
(R77). -/

namespace Sys2Proof.Machine

/-! ## Fixed families of like things -/

/-- One value for each hoist. -/
structure PerHoist (α : Type) where
  h1 : α
  h2 : α
  deriving DecidableEq, Repr

/-- The value of hoist `h`. -/
def PerHoist.get {α : Type} (v : PerHoist α) : Hoist → α
  | .h1 => v.h1
  | .h2 => v.h2

/-- The family with hoist `h`'s value replaced. -/
def PerHoist.set {α : Type} (v : PerHoist α) (h : Hoist) (x : α) : PerHoist α :=
  match h with
  | .h1 => { v with h1 := x }
  | .h2 => { v with h2 := x }

/-- One value for each downstream port. -/
structure PerPort (α : Type) where
  a : α
  b : α
  k : α
  deriving DecidableEq, Repr

/-- The value of port `p`. -/
def PerPort.get {α : Type} (v : PerPort α) : Port → α
  | .a => v.a
  | .b => v.b
  | .k => v.k

/-- The family with port `p`'s value replaced. -/
def PerPort.set {α : Type} (v : PerPort α) (p : Port) (x : α) : PerPort α :=
  match p with
  | .a => { v with a := x }
  | .b => { v with b := x }
  | .k => { v with k := x }

/-- The four zones of the kettle (00_scope.md 4.3). -/
inductive Zone where
  | z1 | z2 | z3 | z4
  deriving DecidableEq, Repr

/-- The number of a zone. -/
def Zone.num : Zone → Nat
  | .z1 => 1
  | .z2 => 2
  | .z3 => 3
  | .z4 => 4

/-- The zones in order. -/
def Zone.all : List Zone := [.z1, .z2, .z3, .z4]

/-- One value for each zone. -/
structure PerZone (α : Type) where
  z1 : α
  z2 : α
  z3 : α
  z4 : α
  deriving DecidableEq, Repr

/-- The value of zone `z`. -/
def PerZone.get {α : Type} (v : PerZone α) : Zone → α
  | .z1 => v.z1
  | .z2 => v.z2
  | .z3 => v.z3
  | .z4 => v.z4

/-- The family with zone `z`'s value replaced. -/
def PerZone.set {α : Type} (v : PerZone α) (z : Zone) (x : α) : PerZone α :=
  match z with
  | .z1 => { v with z1 := x }
  | .z2 => { v with z2 := x }
  | .z3 => { v with z3 := x }
  | .z4 => { v with z4 := x }

/-- The five ordinary notice groups (R157). -/
inductive Group where
  | dip | queue | link | bath | device
  deriving DecidableEq, Repr

/-- One value for each ordinary notice group. -/
structure PerGroup (α : Type) where
  dip    : α
  queue  : α
  link   : α
  bath   : α
  device : α
  deriving DecidableEq, Repr

/-- The value of group `g`. -/
def PerGroup.get {α : Type} (v : PerGroup α) : Group → α
  | .dip => v.dip
  | .queue => v.queue
  | .link => v.link
  | .bath => v.bath
  | .device => v.device

/-- The family with group `g`'s value replaced. -/
def PerGroup.set {α : Type} (v : PerGroup α) (g : Group) (x : α) : PerGroup α :=
  match g with
  | .dip => { v with dip := x }
  | .queue => { v with queue := x }
  | .link => { v with link := x }
  | .bath => { v with bath := x }
  | .device => { v with device := x }

/-! ## The stored tables (R171) -/

/-- The stored settings of a port (R2, R15). -/
structure PortSettings where
  window       : Window
  replyTimeout : Nat
  recoveryTime : Nat
  strictStop   : Bool
  deriving DecidableEq, Repr

/-- When a trap entry may decide a request (R25). -/
inductive TrapCondition where
  | always | overKettle
  deriving DecidableEq, Repr

/-- What a trap entry does with the request it decides (R26). -/
inductive TrapAction where
  | note | block
  deriving DecidableEq, Repr

/-- A trap entry without its hit count (R23). -/
structure TrapEntry where
  enabled    : Bool
  destValue  : Byte
  destMask   : Byte
  codeValue  : Byte
  codeMask   : Byte
  firstValue : Byte
  firstMask  : Byte
  condition  : TrapCondition
  action     : TrapAction
  deriving DecidableEq, Repr

/-- The settings of a hoist (R29). -/
structure HoistSettings where
  station        : Option Nat
  ratedUp        : Nat
  ratedDown      : Nat
  ratedTravel    : Nat
  creep          : Nat
  offset         : Int
  commandTimeout : Nat
  deriving DecidableEq, Repr

/-- Status of a jig (R64). -/
inductive JigStatus where
  | inService | withdrawn
  deriving DecidableEq, Repr

/-- A jig of the jig table (R64). -/
structure Jig where
  id        : Nat
  tare      : Nat
  allowance : Nat
  dips      : Nat
  zinc      : Nat
  status    : JigStatus
  deriving DecidableEq, Repr

/-- A zone's record in the zone map (R101). -/
structure ZoneRec where
  inService : Bool
  floor     : Int
  ceiling   : Int
  deriving DecidableEq, Repr

/-- The zone map (R101). -/
structure ZoneMap where
  zones      : PerZone ZoneRec
  rim        : Nat
  margin     : Nat
  clearance  : Nat
  emptyLevel : Int
  massPerMm  : Nat
  tilt       : Nat
  deriving DecidableEq, Repr

/-- The bath settings (R118). -/
structure BathSettings where
  station      : Option Nat
  low          : Nat
  high         : Nat
  hysteresis   : Nat
  staleTime    : Nat
  pollInterval : Nat
  reconcile    : Nat
  deriving DecidableEq, Repr

/-- Status of a job account (R131). -/
inductive JobStatus where
  | opened | held | closed
  deriving DecidableEq, Repr

/-- A job account (R131). -/
structure Job where
  number     : Nat
  rMin       : Nat
  rMax       : Nat
  holdCount  : Nat
  status     : JobStatus
  dips       : Nat
  steel      : Nat
  pickup     : Nat
  underCount : Nat
  overCount  : Nat
  unweighed  : Nat
  deriving DecidableEq, Repr

/-- The kettle balance (R138). -/
structure Balance where
  k         : Nat
  base      : Nat
  additions : Nat
  removals  : Nat
  pickups   : Nat
  shortfall : Nat
  unweighed : Nat
  deriving DecidableEq, Repr

/-- Level and enable of a notice group (R157). -/
structure GroupSetting where
  level   : Nat
  enabled : Bool
  deriving DecidableEq, Repr

/-- The tables that the stored image holds (R171), as they stand in working memory. -/
structure Tables where
  ownAddress      : Nat
  ports           : PerPort PortSettings
  traps           : Vector TrapEntry 8
  hoists          : PerHoist HoistSettings
  calibration     : PerHoist (Option CalRecord)
  calibrationLock : Bool
  profiles        : Vector (Option Profile) 16
  jigs            : List Jig
  zoneMap         : ZoneMap
  bath            : BathSettings
  jobs            : List Job
  balance         : Balance
  groups          : PerGroup GroupSetting
  deriving DecidableEq, Repr

/-! ## Store -/

/-- Where the tables in working memory came from (R178). -/
inductive StoreState where
  | good | defaults
  deriving DecidableEq, Repr

/-- The stored image: the tables it holds, its content, and the check stored with them (R171, R172). -/
structure StoredImage where
  content : Tables
  check   : BitVec 16
  deriving DecidableEq, Repr

/-- A save in flight (R173). -/
structure Save where
  snapshot : Tables
  deadline : Nat
  deriving DecidableEq, Repr

/-! ## Link interface -/

/-- State of a downstream port (R12). -/
inductive PortState where
  | opened | faulted | isolated | restarting
  deriving DecidableEq, Repr

/-- Kind of a port error (R12). -/
inductive PortError where
  | damaged | stray | timeout
  deriving DecidableEq, Repr

/-- The generated requests that can be pending (R20). -/
inductive GenRequest where
  | commandStop | isolationStop | poll
  deriving DecidableEq, Repr

/-- Who made the request in a slot (R6): for a forwarded one, its upstream source and the limit result. -/
inductive SlotOrigin where
  | forwarded (source : Byte) (reduced : Bool)
  | generated
  deriving DecidableEq, Repr

/-- An occupied in-flight slot (R6), with the deadline of the port's reply timer. -/
structure Slot where
  origin   : SlotOrigin
  dest     : Byte
  seq      : Byte
  code     : Byte
  deadline : Nat
  deriving DecidableEq, Repr

/-- What the link interface holds for a downstream port (R22). -/
structure PortUnit where
  state       : PortState
  errDamaged  : Bool
  errStray    : Bool
  errTimeout  : Bool
  slot        : Option Slot
  recovery    : Option Nat
  restartHold : Option Nat
  stopTimer   : Option Nat
  pending     : Option GenRequest
  deriving DecidableEq, Repr

/-! ## Request filter -/

/-- Direction of a hook (R30). -/
inductive HoistDir where
  | stop | up | down
  deriving DecidableEq, Repr

/-- Direction of a crane bridge (R30). -/
inductive TravelDir where
  | stop | fore | aft
  deriving DecidableEq, Repr

/-- The four fields of a MOTION request (R30). -/
structure MotionValues where
  hoistDir    : HoistDir
  hoistSpeed  : Nat
  travelDir   : TravelDir
  travelSpeed : Nat
  deriving DecidableEq, Repr

/-- The eleven limit sources, in the tie order of R32. -/
inductive LimitSource where
  | fault | operator | rated | state | zone | bath | dross | float | grounded | overload | tilt
  deriving DecidableEq, Repr

/-- Origin of the last MOTION request sent to a hoist station (R40). -/
inductive MotionSender where
  | lineController | timeoutStop | isolationStop
  deriving DecidableEq, Repr

/-- What the request filter holds for a hoist (R43). -/
structure HoistMotion where
  requested    : MotionValues
  applied      : MotionValues
  govHoist     : Option LimitSource
  govTravel    : Option LimitSource
  sender       : MotionSender
  commandTimer : Option Nat
  cap          : Nat
  deriving DecidableEq, Repr

/-! ## Weighing channels -/

/-- The last telemetry block's count and flags (R50). -/
structure Block where
  count     : Int
  loadValid : Bool
  moving    : Bool
  deriving DecidableEq, Repr

/-- A valid hook height with its time of receipt (R50). -/
structure HookHeight where
  height : Int
  time   : Nat
  deriving DecidableEq, Repr

/-- A weighing channel (R60). -/
structure Channel where
  zero      : Option Int
  block     : Option Block
  mass      : Option Int
  overRange : Bool
  filtered  : Option Int
  settle    : Nat
  overload  : Bool
  height    : Option HookHeight
  deriving DecidableEq, Repr

/-! ## Dip contexts -/

/-- The twelve states of a dip context (chapter 5). -/
inductive DipState where
  | idle | jigWeigh | tagged | ready | waitingZone | lowering | entering | immersed | withdrawing | draining
  | weighing | abandoned
  deriving DecidableEq, Repr

/-- A context's link to a pair partner (R75). -/
inductive PairLink where
  | none | partnerPending | paired
  deriving DecidableEq, Repr

/-- A context's claim (R75). -/
inductive Claim where
  | none | waiting | held
  deriving DecidableEq, Repr

/-- The dip flags of a context (R75). -/
structure DipFlags where
  shortImmersion : Bool
  reImmersed     : Bool
  float          : Bool
  grounded       : Bool
  noSteel        : Bool
  overloadSeen   : Bool
  noContact      : Bool
  deriving DecidableEq, Repr

/-- The last jig weigh result (R99). -/
inductive JigResult where
  | none | inProgress | done | tareClamped | timedOut
  deriving DecidableEq, Repr

/-- The jig weigh of a context (R94, R95): jig, result, the tare set, and the jig weigh timer. -/
structure JigWeigh where
  jig    : Nat
  result : JigResult
  tare   : Nat
  timer  : Option Nat
  deriving DecidableEq, Repr

/-- A dip context (R75). Both contexts of a pair hold the figures of the dip alike (R111). -/
structure Context where
  state         : DipState
  tag           : Option TagArgs
  pair          : PairLink
  wDry          : Option Int
  sMass         : Option Nat
  aExp          : Option Int
  aMin          : Option Int
  aMax          : Option Int
  beenInBath    : Bool
  tTare         : Option Nat
  tEntry        : Option Nat
  tImmersion    : Option Nat
  tWithdrawal   : Option Nat
  tDrain        : Option Nat
  dwellDeadline : Option Nat
  drainTimer    : Option Nat
  weighTimer    : Option Nat
  floatLatched  : Bool
  grounded      : Bool
  flags         : DipFlags
  reserved      : Bool
  claim         : Claim
  queueWait     : Bool
  permit        : Bool
  jigWeigh      : JigWeigh
  deriving DecidableEq, Repr

/-! ## Zone arbiter -/

/-- Owner of a zone (R105). -/
inductive Owner where
  | none | hoist (h : Hoist) | pair
  deriving DecidableEq, Repr

/-- The waiting claim (R105): claimant and zone set. -/
structure WaitingClaim where
  claimant : Owner
  first    : Nat
  last     : Nat
  deriving DecidableEq, Repr

/-! ## Bath monitor -/

/-- The poll mode (R120). -/
inductive PollMode where
  | continuous | periodic
  deriving DecidableEq, Repr

/-- Cause of the bath hold (R124, R125). -/
inductive HoldCause where
  | low | high | stale
  deriving DecidableEq, Repr

/-- A figure of the bath monitor: last valid value, its time, and its stale deadline while that has not passed
(R122, R123). -/
structure Figure where
  value    : Int
  time     : Nat
  deadline : Option Nat
  deriving DecidableEq, Repr

/-- The last quiet level sample (R128). -/
structure QuietSample where
  level      : Int
  implied    : Nat
  time       : Nat
  difference : Int
  deriving DecidableEq, Repr

/-- The bath monitor's own state (R130). -/
structure BathMonitor where
  mode        : PollMode
  pollTimer   : Option Nat
  lastPoll    : Option Nat
  temperature : Option Figure
  level       : Option Figure
  outCount    : Nat
  hold        : Option HoldCause
  quiet       : Option QuietSample
  deriving DecidableEq, Repr

/-! ## Dip records -/

/-- How a dip ended (R91). -/
inductive DipOutcome where
  | normal | unweighed | aborted
  deriving DecidableEq, Repr

/-- The hoist of a record (R150). -/
inductive RecordHoist where
  | one (h : Hoist) | both
  deriving DecidableEq, Repr

/-- Apparent masses of a record (R150). -/
structure BathMasses where
  aExp : Int
  aMin : Int
  aMax : Int
  deriving DecidableEq, Repr

/-- Pickup figures of a NORMAL record (R145, R150). -/
structure WetFigures where
  wWet      : Int
  pickup    : Nat
  jigShare  : Nat
  workShare : Nat
  rMin      : Nat
  rMax      : Nat
  deriving DecidableEq, Repr

/-- A dip record (R150). -/
structure Record where
  seq         : BitVec 16
  outcome     : DipOutcome
  hoist       : RecordHoist
  token       : Option Nat
  job         : Nat
  jig         : Nat
  profile     : Nat
  tTare       : Nat
  tEntry      : Option Nat
  tImmersion  : Option Nat
  tWithdrawal : Option Nat
  tDrain      : Option Nat
  tClose      : Nat
  wDry        : Int
  sMass       : Nat
  bath        : Option BathMasses
  wet         : Option WetFigures
  ratio       : Option Nat
  flags       : DipFlags
  negPickup   : Bool
  underBand   : Bool
  overBand    : Bool
  deriving DecidableEq, Repr

/-! ## Notices -/

/-- The nineteen notice kinds, in table order (R156). -/
inductive Notice where
  | dipClosed | pickupOutOfBand | jobHeld | shortImmersion | recordQueueHigh | portFault | trapHit | bathHold
  | bathReleased | reconcileExceeded | balanceShortfall | restarted | storedTableError | saveDone | floatAnomaly
  | grounded | overload | portIsolated | commandTimeoutStop
  deriving DecidableEq, Repr

/-- The nineteen notice flags (R155). -/
structure NoticeFlags where
  dipClosed          : Bool
  pickupOutOfBand    : Bool
  jobHeld            : Bool
  shortImmersion     : Bool
  recordQueueHigh    : Bool
  portFault          : Bool
  trapHit            : Bool
  bathHold           : Bool
  bathReleased       : Bool
  reconcileExceeded  : Bool
  balanceShortfall   : Bool
  restarted          : Bool
  storedTableError   : Bool
  saveDone           : Bool
  floatAnomaly       : Bool
  grounded           : Bool
  overload           : Bool
  portIsolated       : Bool
  commandTimeoutStop : Bool
  deriving DecidableEq, Repr

/-! ## The machine -/

/-- A frame the KD-40 has sent: up on port U, or down on a downstream port. -/
inductive Sent where
  | up (f : Frame)
  | down (p : Port) (f : Frame)
  deriving DecidableEq, Repr

/-- The whole KD-40. `sent` and `pending` are the model's own fields: the frames put on the link by the latest
command (log 6), and the queue of waiting commands. -/
structure State where
  tables          : Tables
  /-- The stored image: its content and its check; `none` where the store was never written and from a save's acceptance
  to its completion, when it holds no tables at all (R172, R173, log 5). -/
  image           : Option StoredImage
  save            : Option Save
  storeState      : StoreState
  restartCause    : RestartCause
  serviceAsserted : Bool
  /-- The time counter, in ms (00_scope.md 4.1, log 7). -/
  now             : Nat
  upstreamDamaged : Bool
  seqCounter      : Byte
  ports           : PerPort PortUnit
  trapHits        : Vector Nat 8
  motion          : PerHoist HoistMotion
  channels        : PerHoist Channel
  contexts        : PerHoist Context
  owners          : PerZone Owner
  waiting         : Option WaitingClaim
  bath            : BathMonitor
  records         : List Record
  nextRecord      : BitVec 16
  notices         : NoticeFlags
  sent            : List Sent
  pending         : List Instr
  deriving DecidableEq, Repr

/-- The reasons a step stops with a fault. The spec gives the KD-40 none: every refusal it describes is an answer on
port U. So the type has no constructor and nothing raises it. -/
inductive Fault
  deriving DecidableEq, Repr

/-- The reasons a command has no meaning. -/
inductive Refusal where
  /-- The command of the named row has no meaning yet. No arm of `exec` answers it. Safe: the run stops. -/
  | notModelled (mnemonic : String)
  deriving DecidableEq, Repr

/-! ## The values after device reset with a bad image (R177) -/

/-- A closed window, as R3 gives for an example (R2). -/
def Window.closed : Window := { base := 126, limit := 1 }

/-- The settings of a port after a bad image (R15). -/
def PortSettings.initial : PortSettings :=
  { window := Window.closed, replyTimeout := 8, recoveryTime := 1000, strictStop := false }

/-- A trap entry after a bad image (R23). -/
def TrapEntry.initial : TrapEntry :=
  { enabled := false, destValue := 0, destMask := 0, codeValue := 0, codeMask := 0, firstValue := 0, firstMask := 0,
    condition := .always, action := .note }

/-- The settings of a hoist after a bad image (R29). -/
def HoistSettings.initial : HoistSettings :=
  { station := none, ratedUp := 600, ratedDown := 600, ratedTravel := 1500, creep := 60, offset := 0,
    commandTimeout := 300 }

/-- A zone's record after a bad image (R101). -/
def ZoneRec.initial : ZoneRec := { inService := false, floor := 0, ceiling := 0 }

/-- The zone map after a bad image (R101). -/
def ZoneMap.initial : ZoneMap :=
  { zones := ⟨.initial, .initial, .initial, .initial⟩, rim := 0, margin := 0, clearance := 0, emptyLevel := 0,
    massPerMm := 1, tilt := 10 }

/-- The bath settings after a bad image (R118). -/
def BathSettings.initial : BathSettings :=
  { station := none, low := 4400, high := 4650, hysteresis := 30, staleTime := 10, pollInterval := 5,
    reconcile := 100000 }

/-- The kettle balance after a bad image (R138). -/
def Balance.initial : Balance :=
  { k := 0, base := 0, additions := 0, removals := 0, pickups := 0, shortfall := 0, unweighed := 0 }

/-- A notice group after a bad image (R157). -/
def GroupSetting.initial : GroupSetting := { level := 1, enabled := true }

/-- Every stored table at its default (R177). -/
def Tables.initial : Tables :=
  { ownAddress := 126
    ports := ⟨.initial, .initial, .initial⟩
    traps := Vector.replicate 8 .initial
    hoists := ⟨.initial, .initial⟩
    calibration := ⟨none, none⟩
    calibrationLock := false
    profiles := Vector.replicate 16 none
    jigs := []
    zoneMap := .initial
    bath := .initial
    jobs := []
    balance := .initial
    groups := ⟨.initial, .initial, .initial, .initial, .initial⟩ }

/-- A downstream port after device reset (R22). -/
def PortUnit.initial : PortUnit :=
  { state := .opened, errDamaged := false, errStray := false, errTimeout := false, slot := none, recovery := none,
    restartHold := none, stopTimer := none, pending := none }

/-- A stop on both axes (R43). -/
def MotionValues.stopped : MotionValues :=
  { hoistDir := .stop, hoistSpeed := 0, travelDir := .stop, travelSpeed := 0 }

/-- The motion record of a hoist after device reset, given its operator cap (R43). -/
def HoistMotion.initial (cap : Nat) : HoistMotion :=
  { requested := .stopped, applied := .stopped, govHoist := none, govTravel := none, sender := .lineController,
    commandTimer := none, cap }

/-- A weighing channel after device reset, given its calibrated zero (R60). -/
def Channel.initial (zero : Option Int) : Channel :=
  { zero, block := none, mass := none, overRange := false, filtered := none, settle := 0, overload := false,
    height := none }

/-- No dip flag set. -/
def DipFlags.clear : DipFlags :=
  { shortImmersion := false, reImmersed := false, float := false, grounded := false, noSteel := false,
    overloadSeen := false, noContact := false }

/-- No jig weighed since device reset: the result is NONE (R100). DESIGN CHOICE (log 30): the jig ID and the tare held
beside it are 0; the spec gives only the result. -/
def JigWeigh.initial : JigWeigh := { jig := 0, result := .none, tare := 0, timer := none }

/-- A dip context after device reset (R100). -/
def Context.initial : Context :=
  { state := .idle, tag := none, pair := .none, wDry := none, sMass := none, aExp := none, aMin := none, aMax := none,
    beenInBath := false, tTare := none, tEntry := none, tImmersion := none, tWithdrawal := none, tDrain := none,
    dwellDeadline := none, drainTimer := none, weighTimer := none, floatLatched := false, grounded := false,
    flags := .clear, reserved := false, claim := .none, queueWait := false, permit := false, jigWeigh := .initial }

/-- The bath monitor after device reset (R130). -/
def BathMonitor.initial : BathMonitor :=
  { mode := .periodic, pollTimer := none, lastPoll := none, temperature := none, level := none, outCount := 0,
    hold := some .stale, quiet := none }

/-- No notice set. -/
def NoticeFlags.clear : NoticeFlags :=
  { dipClosed := false, pickupOutOfBand := false, jobHeld := false, shortImmersion := false, recordQueueHigh := false,
    portFault := false, trapHit := false, bathHold := false, bathReleased := false, reconcileExceeded := false,
    balanceShortfall := false, restarted := false, storedTableError := false, saveDone := false,
    floatAnomaly := false, grounded := false, overload := false, portIsolated := false, commandTimeoutStop := false }

/-- The KD-40 right after its first power-on: a store never written reads as bad (R172), so every stored table is at
its default, RESTARTED and STORED TABLE ERROR are set (R163), and every block has the values of its chapter (R22, R43,
R60, R73, R100, R105, R130, R154, R178). DESIGN CHOICE (log 1): the store has never been written, the restart is
POWER ON and the service line is not asserted. Unsafe for a part that starts with a good image; safe after its
first DEVICE_RESET, which the model takes in full. -/
def State.reset : State :=
  { tables := .initial
    image := none
    save := none
    storeState := .defaults
    restartCause := .powerOn
    serviceAsserted := false
    now := 0
    upstreamDamaged := false
    seqCounter := 0
    ports := ⟨.initial, .initial, .initial⟩
    trapHits := Vector.replicate 8 0
    motion := ⟨.initial 600, .initial 600⟩
    channels := ⟨.initial none, .initial none⟩
    contexts := ⟨.initial, .initial⟩
    owners := ⟨.none, .none, .none, .none⟩
    waiting := none
    bath := .initial
    records := []
    nextRecord := 0
    notices := { NoticeFlags.clear with restarted := true, storedTableError := true }
    sent := []
    pending := [] }

end Sys2Proof.Machine
end

