-- ==== Sys2Proof/Machine/Flags.lean ====
section
/-! DEFINITION. Every flag of the part: the nineteen notices with their groups and the attention value (chapter 9), and
the bit layout of the dip flags (R183). -/

namespace Sys2Proof.Machine

/-- The kinds in table order (R156). -/
def Notice.all : List Notice :=
  [.dipClosed, .pickupOutOfBand, .jobHeld, .shortImmersion, .recordQueueHigh, .portFault, .trapHit, .bathHold,
   .bathReleased, .reconcileExceeded, .balanceShortfall, .restarted, .storedTableError, .saveDone, .floatAnomaly,
   .grounded, .overload, .portIsolated, .commandTimeoutStop]

/-- The kind number, 1 to 19 (R156). -/
def Notice.num : Notice → Nat
  | .dipClosed => 1
  | .pickupOutOfBand => 2
  | .jobHeld => 3
  | .shortImmersion => 4
  | .recordQueueHigh => 5
  | .portFault => 6
  | .trapHit => 7
  | .bathHold => 8
  | .bathReleased => 9
  | .reconcileExceeded => 10
  | .balanceShortfall => 11
  | .restarted => 12
  | .storedTableError => 13
  | .saveDone => 14
  | .floatAnomaly => 15
  | .grounded => 16
  | .overload => 17
  | .portIsolated => 18
  | .commandTimeoutStop => 19

/-- The ordinary group of a kind, `none` for the urgent kinds (R156). -/
def Notice.group : Notice → Option Group
  | .dipClosed | .pickupOutOfBand | .jobHeld | .shortImmersion => some .dip
  | .recordQueueHigh => some .queue
  | .portFault | .trapHit => some .link
  | .bathHold | .bathReleased | .reconcileExceeded | .balanceShortfall => some .bath
  | .restarted | .storedTableError | .saveDone => some .device
  | .floatAnomaly | .grounded | .overload | .portIsolated | .commandTimeoutStop => none

/-- Whether a kind's flag is set. -/
def NoticeFlags.get (f : NoticeFlags) : Notice → Bool
  | .dipClosed => f.dipClosed
  | .pickupOutOfBand => f.pickupOutOfBand
  | .jobHeld => f.jobHeld
  | .shortImmersion => f.shortImmersion
  | .recordQueueHigh => f.recordQueueHigh
  | .portFault => f.portFault
  | .trapHit => f.trapHit
  | .bathHold => f.bathHold
  | .bathReleased => f.bathReleased
  | .reconcileExceeded => f.reconcileExceeded
  | .balanceShortfall => f.balanceShortfall
  | .restarted => f.restarted
  | .storedTableError => f.storedTableError
  | .saveDone => f.saveDone
  | .floatAnomaly => f.floatAnomaly
  | .grounded => f.grounded
  | .overload => f.overload
  | .portIsolated => f.portIsolated
  | .commandTimeoutStop => f.commandTimeoutStop

/-- The flags with one kind's set or cleared. -/
def NoticeFlags.set (f : NoticeFlags) (n : Notice) (b : Bool) : NoticeFlags :=
  match n with
  | .dipClosed => { f with dipClosed := b }
  | .pickupOutOfBand => { f with pickupOutOfBand := b }
  | .jobHeld => { f with jobHeld := b }
  | .shortImmersion => { f with shortImmersion := b }
  | .recordQueueHigh => { f with recordQueueHigh := b }
  | .portFault => { f with portFault := b }
  | .trapHit => { f with trapHit := b }
  | .bathHold => { f with bathHold := b }
  | .bathReleased => { f with bathReleased := b }
  | .reconcileExceeded => { f with reconcileExceeded := b }
  | .balanceShortfall => { f with balanceShortfall := b }
  | .restarted => { f with restarted := b }
  | .storedTableError => { f with storedTableError := b }
  | .saveDone => { f with saveDone := b }
  | .floatAnomaly => { f with floatAnomaly := b }
  | .grounded => { f with grounded := b }
  | .overload => { f with overload := b }
  | .portIsolated => { f with portIsolated := b }
  | .commandTimeoutStop => { f with commandTimeoutStop := b }

/-- The kinds whose flags are set, in table order (R160). -/
def NoticeFlags.kinds (f : NoticeFlags) : List Notice := Notice.all.filter f.get

/-- The five ordinary groups in the order of R160. -/
def Group.all : List Group := [.dip, .queue, .link, .bath, .device]

/-- Whether any kind of a group (`none`: the urgent group) is set. -/
def NoticeFlags.anyOf (f : NoticeFlags) (g : Option Group) : Bool := f.kinds.any (fun n => n.group == g)

/-- The level a group contributes (R157). -/
def groupLevel (t : PerGroup GroupSetting) (f : NoticeFlags) (g : Group) : Nat :=
  if (t.get g).enabled && f.anyOf (some g) then (t.get g).level else 0

/-- The level the urgent group contributes (R157). -/
def urgentLevel (f : NoticeFlags) : Nat := if f.anyOf none then 4 else 0

/-- The attention value (R158): the highest level contributed, 0 when no group contributes. -/
def attentionOf (t : PerGroup GroupSetting) (f : NoticeFlags) : Nat :=
  Group.all.foldl (fun m g => max m (groupLevel t f g)) (urgentLevel f)

/-- The attention value of a state (R158). -/
def attention (s : State) : Nat := attentionOf s.tables.groups s.notices

/-- Set a notice (R155). -/
def setNotice (n : Notice) (s : State) : State := { s with notices := s.notices.set n true }

/-- Set a notice when a condition holds. -/
def setNoticeIf (c : Bool) (n : Notice) (s : State) : State := if c then setNotice n s else s

/-- A two-valued item as a number (R182). -/
def bit (b : Bool) : Nat := if b then 1 else 0

/-- A record's flag bytes: bits 0 to 9 (R183). DESIGN CHOICE (log 40): bits 15 to 10, which R183 does not give, are sent
0. -/
def flagBits (f : DipFlags) (negPickup under over' : Bool) : Nat :=
  bit f.shortImmersion + 2 * bit f.reImmersed + 4 * bit f.float + 8 * bit f.grounded + 16 * bit negPickup
    + 32 * bit under + 64 * bit over' + 128 * bit f.noSteel + 256 * bit f.overloadSeen + 512 * bit f.noContact

end Sys2Proof.Machine
end

