-- ==== Sys2Proof/Machine/Ops.lean ====
section
/-! DEFINITION. The named operations over the state that every block uses: replacing one block's part, sending frames,
local replies, and the small arithmetic of 00_scope.md 4.2. -/

namespace Sys2Proof.Machine

/-! ## Replacing a part of the state -/

/-- Begin a command: no frame sent by it yet (log 6). -/
def State.begin (s : State) : State := { s with sent := [] }

/-- The stored tables replaced. -/
def State.setTables (s : State) (t : Tables) : State := { s with tables := t }

/-- Port `p`'s unit replaced. -/
def State.setPort (s : State) (p : Port) (u : PortUnit) : State := { s with ports := s.ports.set p u }

/-- Hoist `h`'s motion record replaced. -/
def State.setMotion (s : State) (h : Hoist) (m : HoistMotion) : State := { s with motion := s.motion.set h m }

/-- Hoist `h`'s weighing channel replaced. -/
def State.setChannel (s : State) (h : Hoist) (c : Channel) : State := { s with channels := s.channels.set h c }

/-- Hoist `h`'s dip context replaced. -/
def State.setContext (s : State) (h : Hoist) (c : Context) : State := { s with contexts := s.contexts.set h c }

/-- The bath monitor replaced. -/
def State.setBath (s : State) (b : BathMonitor) : State := { s with bath := b }

/-- The job table replaced. -/
def State.setJobs (s : State) (js : List Job) : State := s.setTables { s.tables with jobs := js }

/-- The jig table replaced. -/
def State.setJigs (s : State) (js : List Jig) : State := s.setTables { s.tables with jigs := js }

/-- The kettle balance replaced. -/
def State.setBalance (s : State) (b : Balance) : State := s.setTables { s.tables with balance := b }

/-! ## Sending frames -/

/-- The own station address as a byte of a header. -/
def ownByte (s : State) : Byte := BitVec.ofNat 8 s.tables.ownAddress

/-- Send a frame on port U with the attention value of this moment (R158, R159). -/
def sendUp (f : Frame) (s : State) : State :=
  { s with sent := s.sent ++ [.up { f with attention := attention s }] }

/-- Send a frame on a downstream port; its attention value is 0 (R21). -/
def sendDown (p : Port) (f : Frame) (s : State) : State :=
  { s with sent := s.sent ++ [.down p { f with attention := 0 }] }

/-- A local reply to a request with this source, destination, sequence number and code (R11). -/
def localReply (reqSource reqDest seq code : Byte) (lc : LocalCode) (s : State) : State :=
  sendUp { dest := reqSource, src := reqDest, reply := true, origin := true, limited := false, attention := 0, seq,
           code, payload := [localByte lc] } s

/-- The local reply to the request in a slot: none for a generated request (R8, R10, R16, R18). -/
def answerSlot (sl : Slot) (lc : LocalCode) (s : State) : State :=
  match sl.origin with
  | .forwarded source _ => localReply source sl.dest sl.seq sl.code lc s
  | .generated => s

/-! ## Arithmetic -/

/-- `n / d` rounded to nearest, halves away from zero (00_scope.md 4.2). -/
def roundDiv (n : Int) (d : Nat) : Int :=
  if n < 0 then -(((2 * n.natAbs + d) / (2 * d) : Nat) : Int) else (((2 * n.natAbs + d) / (2 * d) : Nat) : Int)

/-- `x` held within `lo` to `hi`. -/
def clampInt (lo hi x : Int) : Int := max lo (min hi x)

/-- A count raised by `n`, saturating at `top` (00_scope.md 4.2). -/
def satAdd (top a n : Nat) : Nat := min top (a + n)

/-- A step of `d` divided by `n`, truncated toward zero, of at least one unit when `d` is not 0 (R52, R56). -/
def minStep (d : Int) (n : Nat) : Int :=
  let q := d.tdiv n
  if q = 0 then (if 0 < d then 1 else if d < 0 then -1 else 0) else q

/-- Whether a running timer's deadline has been reached (R77, log 3). -/
def due (timer : Option Nat) (s : State) : Bool :=
  match timer with
  | some d => d ≤ s.now
  | none => false

/-! ## Tables -/

/-- The job account with a number (R131). -/
def findJob (n : Nat) (s : State) : Option Job := s.tables.jobs.find? (fun j => j.number == n)

/-- The jig with an ID (R64). -/
def findJig (n : Nat) (s : State) : Option Jig := s.tables.jigs.find? (fun j => j.id == n)

/-- The profile with a number, if the place is full (R61). -/
def findProfile (n : Nat) (s : State) : Option Profile :=
  if n = 0 then none else (s.tables.profiles[n - 1]?).join

/-- The job account with a number replaced by `f` of it. -/
def modJob (n : Nat) (f : Job → Job) (s : State) : State :=
  s.setJobs (s.tables.jobs.map (fun j => if j.number = n then f j else j))

/-- The jig with an ID replaced by `f` of it. -/
def modJig (n : Nat) (f : Jig → Jig) (s : State) : State :=
  s.setJigs (s.tables.jigs.map (fun j => if j.id = n then f j else j))

/-! ## Families of context states -/

/-- The over-kettle states (00_scope.md 5). -/
def DipState.overKettle : DipState → Bool
  | .lowering | .entering | .immersed | .withdrawing | .draining => true
  | .idle | .jigWeigh | .tagged | .ready | .waitingZone | .weighing | .abandoned => false

/-- The in-bath states (00_scope.md 5). -/
def DipState.inBath : DipState → Bool
  | .entering | .immersed | .withdrawing => true
  | .idle | .jigWeigh | .tagged | .ready | .waitingZone | .lowering | .draining | .weighing | .abandoned => false

/-- The states from TAGGED to WEIGHING (R76, step 1). -/
def DipState.inDip : DipState → Bool
  | .tagged | .ready | .waitingZone | .lowering | .entering | .immersed | .withdrawing | .draining | .weighing => true
  | .idle | .jigWeigh | .abandoned => false

/-- The bath is active (R120). -/
def bathActive (s : State) : Bool := s.contexts.h1.state.overKettle || s.contexts.h2.state.overKettle

/-- The approach height (R101). -/
def approachHeight (s : State) : Int := s.tables.zoneMap.rim + s.tables.zoneMap.margin

/-- The surface: the bath monitor's last valid level (chapter 7). -/
def surface (s : State) : Option Int := s.bath.level.map Figure.value

/-- A hook's height above the datum (R97, R117), absent without a valid hook height. -/
def hookHeight (h : Hoist) (s : State) : Option Int :=
  (s.channels.get h).height.map (fun x => x.height + (s.tables.hoists.get h).offset)

/-- A load's bottom on its own hoist (R72). -/
def ownBottom (h : Hoist) (s : State) : Option Int :=
  match (s.contexts.get h).tag, hookHeight h s with
  | some t, some y => some (y - t.loadDepth)
  | _, _ => none

/-- A load's top on its own hoist (R72). -/
def ownTop (h : Hoist) (s : State) : Option Int :=
  match (s.contexts.get h).tag, ownBottom h s with
  | some t, some b => some (b + t.workHeight)
  | _, _ => none

/-- Both contexts are driven as one pair: PAIRED, and not after an abort (R111, R116). -/
def joint (s : State) : Bool :=
  s.contexts.h1.pair == .paired && s.contexts.h2.pair == .paired
    && s.contexts.h1.state != .abandoned && s.contexts.h2.state != .abandoned

/-- Both parts combined, absent when either is (R111). -/
def both (f : Int → Int → Int) (x y : Option Int) : Option Int :=
  match x, y with
  | some a, some b => some (f a b)
  | _, _ => none

/-- The bottom a hoist's dip is followed by: the pair bottom for a pair driven as one (R111). -/
def dipBottom (h : Hoist) (s : State) : Option Int :=
  if joint s then both min (ownBottom .h1 s) (ownBottom .h2 s) else ownBottom h s

/-- The top a hoist's dip is followed by (R111). -/
def dipTop (h : Hoist) (s : State) : Option Int :=
  if joint s then both max (ownTop .h1 s) (ownTop .h2 s) else ownTop h s

/-- A channel is settled (R53). -/
def channelSettled (h : Hoist) (s : State) : Bool :=
  match s.tables.calibration.get h with
  | some r => (s.channels.get h).filtered.isSome && decide (r.settleCount ≤ (s.channels.get h).settle)
  | none => false

/-- The last telemetry block of a channel had moving clear. -/
def channelStill (h : Hoist) (s : State) : Bool :=
  match (s.channels.get h).block with
  | some b => !b.moving
  | none => false

/-- The profile named by a context's tag. -/
def tagProfile (h : Hoist) (s : State) : Option Profile :=
  match (s.contexts.get h).tag with
  | some t => findProfile t.profile s
  | none => none

end Sys2Proof.Machine
end

