-- ==== Sys2Proof/Machine/Generated.lean ====
section
/-! DEFINITION. The in-flight slots and the requests the KD-40 makes itself: stops, polls and STATION RESTART (R6,
R17, R18, R20, R42, R120), and the poll schedule's change of mode (R121). -/

namespace Sys2Proof.Machine

/-- A request takes a port's slot and loads the reply timer with the port's reply timeout (R6). -/
def takeSlot (p : Port) (origin : SlotOrigin) (dest seq code : Byte) (s : State) : State :=
  s.setPort p { s.ports.get p with
    slot := some { origin, dest, seq, code, deadline := s.now + (s.tables.ports.get p).replyTimeout } }

/-- The frame of a generated request: ORIGIN set, own address as source, attention 0, the part's own sequence number
(R20). -/
def generatedFrame (dest code : Byte) (payload : List Byte) (s : State) : Frame :=
  { dest, src := ownByte s, reply := false, origin := true, limited := false, attention := 0, seq := s.seqCounter,
    code, payload }

/-- The part's own sequence counter advances by 1, wrapping from 255 to 0 (R20). -/
def advanceSeq (s : State) : State := { s with seqCounter := s.seqCounter + 1 }

/-- Send a generated request that takes the slot (R20). DESIGN CHOICE (log 44): a request that has waited as the port's
pending request takes its sequence number and its source address here, when it is sent, and not when it fell due. -/
def sendInSlot (p : Port) (dest code : Byte) (payload : List Byte) (s : State) : State :=
  advanceSeq (takeSlot p .generated dest s.seqCounter code (sendDown p (generatedFrame dest code payload s) s))

/-- The payload of a stop: STOP 0 on both axes (R17, R42). -/
def stopPayload : List Byte := [0, 0, 0, 0, 0, 0]

/-- Applied values and last sender after a MOTION request has been sent to the hoist station, and the command timer
restarted (R33, R41). -/
def motionSent (h : Hoist) (applied : MotionValues) (sender : MotionSender) (s : State) : State :=
  s.setMotion h { s.motion.get h with
    applied, sender, commandTimer := some (s.now + (s.tables.hoists.get h).commandTimeout) }

/-- Send a stop to a hoist station; nothing while its address is none (R17, R29, R42). -/
def sendStop (h : Hoist) (sender : MotionSender) (s : State) : State :=
  match (s.tables.hoists.get h).station with
  | none => s
  | some a => motionSent h .stopped sender (sendInSlot h.port (BitVec.ofNat 8 a) codeMotion stopPayload s)

/-- The poll timer's length in the present mode, in ms (R120). -/
def pollLength (s : State) : Nat :=
  match s.bath.mode with
  | .continuous => Config.continuousPoll
  | .periodic => s.tables.bath.pollInterval * 1000

/-- Send a BATH READ poll; nothing while the bath station address is none (R118, R120). -/
def sendPoll (s : State) : State :=
  match s.tables.bath.station with
  | none => s
  | some a =>
    (sendInSlot .k (BitVec.ofNat 8 a) codeBathRead [] s).setBath
      { s.bath with lastPoll := some s.now, pollTimer := some (s.now + pollLength s) }

/-- The hoist of a hoist port. -/
def Port.hoist : Port → Option Hoist
  | .a => some .h1
  | .b => some .h2
  | .k => none

/-- Send a generated request of a kind on a port (R17, R42, R120). A command-timeout STOP sets its notice when it is
sent (R42). -/
def sendGenerated (p : Port) (g : GenRequest) (s : State) : State :=
  match g, Port.hoist p with
  | .commandStop, some h =>
    if (s.tables.hoists.get h).station.isSome then setNotice .commandTimeoutStop (sendStop h .timeoutStop s) else s
  | .isolationStop, some h => sendStop h .isolationStop s
  | .poll, none => sendPoll s
  | _, _ => s

/-- Whether a generated request of a kind may be sent in a port state (R20). -/
def maySend (g : GenRequest) : PortState → Bool
  | .opened | .faulted => true
  | .isolated => g == .isolationStop
  | .restarting => false

/-- A generated request falls due: sent at once if the slot is free and the state allows, else it becomes the port's
pending request; one of the same kind already pending stands (R20). -/
def generatedDue (p : Port) (g : GenRequest) (s : State) : State :=
  if (s.ports.get p).slot.isNone && maySend g (s.ports.get p).state then sendGenerated p g s
  else s.setPort p { s.ports.get p with pending := some g }

/-- A pending request that may be sent takes the free slot (R20), with the sequence number and the source of this moment
(log 44). -/
def sendPending (p : Port) (s : State) : State :=
  match (s.ports.get p).slot, (s.ports.get p).pending with
  | none, some g =>
    if maySend g (s.ports.get p).state then
      sendGenerated p g (s.setPort p { s.ports.get p with pending := none })
    else s
  | _, _ => s

/-- A poll falls due; none while the bath station address is none (R120). -/
def pollDue (s : State) : State := if s.tables.bath.station.isSome then generatedDue .k .poll s else s

/-- The change to CONTINUOUS: the poll timer stops and a poll falls due at the same event (R121). -/
def toContinuous (s : State) : State := pollDue (s.setBath { s.bath with mode := .continuous, pollTimer := none })

/-- The change to PERIODIC: a pending poll is kept with the timer not loaded; else the timer is loaded to expire one
poll interval after the last generated poll, and a poll falls due at once where that moment has come or no poll has
been sent (R121, log 21). -/
def toPeriodic (s : State) : State :=
  let s := s.setBath { s.bath with mode := .periodic }
  if s.tables.bath.station.isNone then s.setBath { s.bath with pollTimer := none }
  else if (s.ports.get .k).pending.isSome then s.setBath { s.bath with pollTimer := none }
  else
    match s.bath.lastPoll with
    | some t =>
      if s.now < t + s.tables.bath.pollInterval * 1000 then
        s.setBath { s.bath with pollTimer := some (t + s.tables.bath.pollInterval * 1000) }
      else pollDue (s.setBath { s.bath with pollTimer := none })
    | none => pollDue (s.setBath { s.bath with pollTimer := none })

/-- The poll mode follows the bath's activity at the event that changes it (R121). -/
def syncPollMode (s : State) : State :=
  match bathActive s, s.bath.mode with
  | true, .periodic => toContinuous s
  | false, .continuous => toPeriodic s
  | _, _ => s

end Sys2Proof.Machine
end

