-- ==== Sys2Proof/Machine/Bath.lean ====
section
/-! DEFINITION. The bath monitor: bath samples (R122 to R126), the stale expiry (R125) and the quiet level sample
(R128). -/

namespace Sys2Proof.Machine

/-- A bath reading (12.1). -/
structure BathReading where
  tempValid   : Bool
  levelValid  : Bool
  temperature : Int
  level       : Int
  deriving DecidableEq, Repr

/-- The reading in a bath reply's payload; none when it is too short to hold one (R118, 12.1). -/
def bathReadingOf (p : List Byte) : Option BathReading :=
  if 5 ≤ p.length then
    some { tempValid := (fieldByte p 0).getLsbD 0, levelValid := (fieldByte p 0).getLsbD 1,
           temperature := fieldInt p 1 2, level := fieldInt p 3 2 }
  else none

/-- Step 1 of a bath sample: a level outside −2,000 to 20,000 mm is taken as invalid (R122). -/
def BathReading.validLevel (r : BathReading) : Bool := r.levelValid && decide (-2000 ≤ r.level ∧ r.level ≤ 20000)

/-- A figure just received, its stale deadline set from the stale time (R122). -/
def freshFigure (x : Int) (b : BathSettings) (now : Nat) : Figure :=
  { value := x, time := now, deadline := some (now + b.staleTime * 1000) }

/-- A figure is fresh while its stale deadline has not passed (R123, log 13). -/
def Figure.fresh (f : Figure) (now : Nat) : Bool :=
  match f.deadline with
  | some d => now ≤ d
  | none => false

/-- An absent figure is stale (R123). -/
def isFresh (f : Option Figure) (now : Nat) : Bool :=
  match f with
  | some f => f.fresh now
  | none => false

/-- Step 2: valid figures replaced (R122). -/
def bathFigures (r : BathReading) (s : State) : State :=
  s.setBath { s.bath with
    temperature := if r.tempValid then some (freshFigure r.temperature s.tables.bath s.now) else s.bath.temperature
    level := if r.validLevel then some (freshFigure r.level s.tables.bath s.now) else s.bath.level }

/-- A temperature lies in the window (R118). -/
def inWindow (b : BathSettings) (x : Int) : Bool := decide ((b.low : Int) ≤ x ∧ x ≤ b.high)

/-- A temperature lies in the release window (R118). -/
def inReleaseWindow (b : BathSettings) (x : Int) : Bool :=
  decide ((b.low : Int) + b.hysteresis ≤ x ∧ x ≤ (b.high : Int) - b.hysteresis)

/-- Step 3: the out-of-window count, and the hold at four or more (R124). -/
def windowCount (r : BathReading) (s : State) : State :=
  if !r.tempValid then s
  else if inWindow s.tables.bath r.temperature then s.setBath { s.bath with outCount := 0 }
  else
    let n := satAdd 255 s.bath.outCount 1
    if 4 ≤ n then
      let cause := if r.temperature < s.tables.bath.low then HoldCause.low else HoldCause.high
      setNoticeIf s.bath.hold.isNone .bathHold (s.setBath { s.bath with outCount := n, hold := some cause })
    else s.setBath { s.bath with outCount := n }

/-- Step 4: the release of the hold (R126). -/
def bathRelease (r : BathReading) (s : State) : State :=
  if s.bath.hold.isSome && r.tempValid && inReleaseWindow s.tables.bath r.temperature
      && isFresh s.bath.temperature s.now && isFresh s.bath.level s.now then
    setNotice .bathReleased (s.setBath { s.bath with hold := none })
  else s

/-- No context is in ENTERING, IMMERSED, WITHDRAWING or DRAINING (R128). -/
def bathQuiet (s : State) : Bool :=
  !(s.contexts.h1.state.inBath || s.contexts.h1.state == .draining
    || s.contexts.h2.state.inBath || s.contexts.h2.state == .draining)

/-- The implied mass of a level (R128). -/
def impliedMass (m : ZoneMap) (level : Int) : Nat := (level - m.emptyLevel).toNat * m.massPerMm

/-- Step 5: the quiet level sample (R128). -/
def quietSample (r : BathReading) (s : State) : State :=
  if r.validLevel && bathQuiet s then
    let implied := impliedMass s.tables.zoneMap r.level
    let d := clampInt (-Config.differenceMax) Config.differenceMax ((s.tables.balance.k : Int) - implied)
    let before := match s.bath.quiet with
      | some q => decide (q.difference.natAbs ≤ s.tables.bath.reconcile)
      | none => true
    setNoticeIf (decide (s.tables.bath.reconcile < d.natAbs) && before) .reconcileExceeded
      (s.setBath { s.bath with quiet := some { level := r.level, implied, time := s.now, difference := d } })
  else s

/-- A bath sample, its five steps in order (R122). -/
def takeBathSample (r : BathReading) (s : State) : State :=
  quietSample r (bathRelease r (windowCount r (bathFigures r s)))

/-- The hold set with cause STALE, or its cause turned to STALE (R125). -/
def holdStale (s : State) : State :=
  setNoticeIf s.bath.hold.isNone .bathHold (s.setBath { s.bath with hold := some .stale })

/-- A figure of the monitor. -/
def BathMonitor.figure (b : BathMonitor) : BathFigure → Option Figure
  | .temperature => b.temperature
  | .level => b.level

/-- A figure of the monitor replaced. -/
def BathMonitor.setFigure (b : BathMonitor) (fig : BathFigure) (f : Option Figure) : BathMonitor :=
  match fig with
  | .temperature => { b with temperature := f }
  | .level => { b with level := f }

/-- The stale expiry of a figure: its deadline has passed, and the hold is tested (R123, R125). -/
def staleExpired (fig : BathFigure) (s : State) : State :=
  holdStale (s.setBath (s.bath.setFigure fig ((s.bath.figure fig).map (fun f => { f with deadline := none }))))

end Sys2Proof.Machine
end

