-- ==== Sys2Proof/Machine/Accounts.lean ====
section
/-! DEFINITION. Closing a dip into the accounts (R144 to R148), the record queue (R149 to R151), and the kettle
balance's debits (R140, R146). -/

namespace Sys2Proof.Machine

/-- The record places reserved by dip contexts; a pair reserves one between its two (R149). -/
def reservedPlaces (s : State) : Nat :=
  match s.contexts.h1.reserved, s.contexts.h2.reserved with
  | true, true => if s.contexts.h1.pair == .paired && s.contexts.h2.pair == .paired then 1 else 2
  | true, false => 1
  | false, true => 1
  | false, false => 0

/-- Whether the record queue has a free place (R79). -/
def placeFree (s : State) : Bool := s.records.length + reservedPlaces s < Config.recordPlaces

/-- Debit the kettle balance: K falls, or becomes 0 with the excess added to the shortfall (R140, R146). -/
def Balance.debit (b : Balance) (mass : Nat) : Balance :=
  if mass ≤ b.k then { b with k := b.k - mass }
  else { b with k := 0, shortfall := b.shortfall + (mass - b.k) }

/-- The pickup figures of a NORMAL close (R145). `ratio` is absent when S is 0. -/
structure PickupFigures where
  pickup    : Nat
  jigShare  : Nat
  workShare : Nat
  ratio     : Option Nat
  negPickup : Bool
  underBand : Bool
  overBand  : Bool
  deriving DecidableEq, Repr

/-- The pickup ratio: floor(Pw × 1000 / S), at most 999; absent for S = 0 (R145). -/
def pickupRatio (workShare sMass : Nat) : Option Nat :=
  if sMass = 0 then none else some (min 999 (workShare * 1000 / sMass))

/-- The arithmetic of a NORMAL close (R145), from W_dry, S, W_wet, the jig's allowance and the job's band. -/
def pickupFigures (wDry : Int) (sMass : Nat) (wWet : Int) (allowance rMin rMax : Nat) : PickupFigures :=
  let p := (wWet - wDry).toNat
  let j := min p allowance
  let r := pickupRatio (p - j) sMass
  { pickup := p, jigShare := j, workShare := p - j, ratio := r, negPickup := wWet < wDry,
    underBand := match r with
      | some x => x < rMin
      | none => false
    overBand := match r with
      | some x => rMax < x
      | none => false }

/-- The job account after a NORMAL close (R146). -/
def Job.closeNormal (j : Job) (sMass : Nat) (f : PickupFigures) : Job :=
  let over' := satAdd Config.count16Max j.overCount (bit f.overBand)
  { j with
    dips := satAdd Config.count16Max j.dips 1
    steel := satAdd Config.count32Max j.steel sMass
    pickup := satAdd Config.count32Max j.pickup f.workShare
    underCount := satAdd Config.count16Max j.underCount (bit f.underBand)
    overCount := over'
    status := if f.overBand && j.status == .opened && j.holdCount != 0 && j.holdCount ≤ over' then .held
      else j.status }

/-- The job account after an UNWEIGHED close, or an ABORTED one that reached the bath (R147, R148). -/
def Job.closeUnweighed (j : Job) : Job :=
  { j with dips := satAdd Config.count16Max j.dips 1, unweighed := satAdd Config.count16Max j.unweighed 1 }

/-- The jig after a close that charges it `mass` (R146, R147). -/
def Jig.charge (j : Jig) (mass : Nat) : Jig :=
  { j with
    tare := satAdd Config.tareMax j.tare mass
    zinc := satAdd Config.count32Max j.zinc mass
    dips := satAdd Config.count16Max j.dips 1 }

/-- The jig's allowance per dip, 0 for a jig not in the table (log 24). -/
def allowanceOf (n : Nat) (s : State) : Nat := ((findJig n s).map Jig.allowance).getD 0

/-- The job's band, 0 to 0 for a job not in the table (log 24). -/
def bandOf (n : Nat) (s : State) : Nat × Nat := ((findJob n s).map (fun j => (j.rMin, j.rMax))).getD (0, 0)

/-- The record joins the queue as its newest with the next sequence number, and RECORD QUEUE HIGH is set when the
records held rise from 39 to 40 (R151). -/
def writeRecord (r : Record) (s : State) : State :=
  setNoticeIf (s.records.length + 1 == Config.recordsHigh) .recordQueueHigh
    { s with records := s.records ++ [{ r with seq := s.nextRecord }], nextRecord := s.nextRecord + 1 }

/-- The record of a dip, but for its sequence number, from the context that closes it (R91, R150). -/
def recordOf (c : Context) (t : TagArgs) (hoist : RecordHoist) (outcome : DipOutcome) (wet : Option WetFigures)
    (ratio : Option Nat) (negPickup under over' : Bool) (now : Nat) : Record :=
  { seq := 0, outcome, hoist, token := if t.token = 0 then none else some t.token, job := t.job, jig := t.jig,
    profile := t.profile, tTare := c.tTare.getD 0, tEntry := c.tEntry, tImmersion := c.tImmersion,
    tWithdrawal := c.tWithdrawal, tDrain := c.tDrain, tClose := now, wDry := c.wDry.getD 0, sMass := c.sMass.getD 0,
    bath := if c.beenInBath then
        some { aExp := c.aExp.getD 0, aMin := c.aMin.getD 0, aMax := c.aMax.getD 0 }
      else none,
    wet, ratio, flags := c.flags, negPickup, underBand := under, overBand := over' }

/-- Whether a NORMAL close turns the job from OPEN to HELD (R146). -/
def turnsHeld (j : Job) (sMass : Nat) (f : PickupFigures) : Bool :=
  j.status == .opened && (j.closeNormal sMass f).status == .held

/-- A NORMAL close (R144 to R146). -/
def closeNormal (c : Context) (t : TagArgs) (hoist : RecordHoist) (wWet : Int) (s : State) : State :=
  let sMass := c.sMass.getD 0
  let band := bandOf t.job s
  let f := pickupFigures (c.wDry.getD 0) sMass wWet (allowanceOf t.jig s) band.1 band.2
  let wet : WetFigures :=
    { wWet, pickup := f.pickup, jigShare := f.jigShare, workShare := f.workShare, rMin := band.1, rMax := band.2 }
  let held := ((findJob t.job s).map (fun j => turnsHeld j sMass f)).getD false
  let short := s.tables.balance.k < f.pickup
  let s := writeRecord (recordOf c t hoist .normal (some wet) f.ratio f.negPickup f.underBand f.overBand s.now) s
  let s := modJob t.job (fun j => j.closeNormal sMass f) s
  let s := modJig t.jig (fun j => j.charge f.jigShare) s
  let b := s.tables.balance
  let s := s.setBalance ({ b with pickups := b.pickups + f.pickup }.debit f.pickup)
  let s := setNoticeIf held .jobHeld s
  let s := setNoticeIf short .balanceShortfall s
  let s := setNotice .dipClosed s
  let s := setNoticeIf (f.underBand || f.overBand) .pickupOutOfBand s
  setNoticeIf c.flags.shortImmersion .shortImmersion s

/-- The charge of a close that reached the bath and has no wet weight (R147). -/
def chargeUnweighed (t : TagArgs) (s : State) : State :=
  let allowance := allowanceOf t.jig s
  let s := modJob t.job Job.closeUnweighed s
  let s := modJig t.jig (fun j => j.charge allowance) s
  let b := s.tables.balance
  s.setBalance { b with unweighed := satAdd Config.count32Max b.unweighed 1 }

/-- An UNWEIGHED close (R144, R147). -/
def closeUnweighed (c : Context) (t : TagArgs) (hoist : RecordHoist) (s : State) : State :=
  let s := writeRecord (recordOf c t hoist .unweighed none none false false false s.now) s
  setNotice .dipClosed (chargeUnweighed t s)

/-- An ABORTED close: charged as UNWEIGHED, or not charged at all with NO_CONTACT (R144, R148). -/
def closeAborted (c : Context) (t : TagArgs) (hoist : RecordHoist) (s : State) : State :=
  let s := writeRecord (recordOf c t hoist .aborted none none false false false s.now) s
  setNotice .dipClosed (if c.flags.noContact then s else chargeUnweighed t s)

end Sys2Proof.Machine
end

