-- ==== Sys2Proof/Machine/Zones.lean ====
section
/-! DEFINITION. The zone arbiter (R105 to R107): claims granted whole or not at all, releases, and the waiting
claim. -/

namespace Sys2Proof.Machine

/-- Whether a zone lies in the set from `first` to `last` (R68). -/
def inSet (first last : Nat) (z : Zone) : Bool := first ≤ z.num && z.num ≤ last

/-- Whether every zone of a set is owned by NONE or by the claimant (R106). -/
def grantable (claimant : Owner) (first last : Nat) (owners : PerZone Owner) : Bool :=
  Zone.all.all (fun z => !inSet first last z || owners.get z == .none || owners.get z == claimant)

/-- The owner of a zone after a grant. -/
def grantZone (claimant : Owner) (first last : Nat) (z : Zone) (o : Owner) : Owner :=
  if inSet first last z then claimant else o

/-- Every zone of a set given to the claimant (R106). -/
def grantZones (claimant : Owner) (first last : Nat) (owners : PerZone Owner) : PerZone Owner :=
  { z1 := grantZone claimant first last .z1 owners.z1, z2 := grantZone claimant first last .z2 owners.z2,
    z3 := grantZone claimant first last .z3 owners.z3, z4 := grantZone claimant first last .z4 owners.z4 }

/-- Every zone of a claimant given up (R107). -/
def freeZones (claimant : Owner) (owners : PerZone Owner) : PerZone Owner :=
  { z1 := if owners.z1 = claimant then .none else owners.z1,
    z2 := if owners.z2 = claimant then .none else owners.z2,
    z3 := if owners.z3 = claimant then .none else owners.z3,
    z4 := if owners.z4 = claimant then .none else owners.z4 }

/-- The hoists whose contexts a claimant stands for (R105). -/
def Owner.hoists : Owner → List Hoist
  | .none => []
  | .hoist h => [h]
  | .pair => [.h1, .h2]

/-- Each context of a list changed by `f`. -/
def modContexts (ms : List Hoist) (f : Context → Context) (s : State) : State :=
  ms.foldl (fun s h => s.setContext h (f (s.contexts.get h))) s

/-- A grant at a context: its claim is HELD and it enters LOWERING (R81, R106). -/
def Context.granted (c : Context) : Context := { c with claim := .held, state := .lowering }

/-- A claim that waits: the context enters WAITING_ZONE (R80, R106). -/
def Context.claimWaits (c : Context) : Context := { c with claim := .waiting, state := .waitingZone }

/-- Submission of a claim (R106): granted whole at once, or made the waiting claim. -/
def submitClaim (claimant : Owner) (first last : Nat) (s : State) : State :=
  if grantable claimant first last s.owners then
    modContexts claimant.hoists Context.granted { s with owners := grantZones claimant first last s.owners }
  else
    modContexts claimant.hoists Context.claimWaits { s with waiting := some { claimant, first, last } }

/-- The waiting claim tested afresh after a release, and granted if it now can be (R107). -/
def grantWaiting (s : State) : State :=
  match s.waiting with
  | some w =>
    if grantable w.claimant w.first w.last s.owners then
      modContexts w.claimant.hoists Context.granted
        { s with owners := grantZones w.claimant w.first w.last s.owners, waiting := none }
    else s
  | none => s

/-- A release: every zone of the claimant becomes NONE, and the waiting claim is tested (R107). -/
def releaseZones (claimant : Owner) (s : State) : State :=
  grantWaiting { s with owners := freeZones claimant s.owners }

/-- The highest dross ceiling among the zones of a set, absent for an empty set (R98). -/
def highestDross (first last : Nat) (m : ZoneMap) : Option Int :=
  (Zone.all.filter (inSet first last)).foldl
    (fun acc z => some (match acc with
      | some x => max x (m.zones.get z).ceiling
      | none => (m.zones.get z).ceiling)) none

end Sys2Proof.Machine
end

