-- ==== Sys2Proof/Machine/Dip.lean ====
section
/-! DEFINITION. The dip context (chapter 5) and the pair (6.3 to 6.4): what a context does at a sample, at the expiry of
its timers and at the isolation of its port. A pair driven as one takes every transition in both contexts at once. -/

namespace Sys2Proof.Machine

/-- The hoists whose contexts take a transition of hoist `h` together (R111). -/
def members (h : Hoist) (s : State) : List Hoist := if joint s then [.h1, .h2] else [h]

/-- The claimant a hoist's dip claims as (R105, R113). -/
def claimantOf (h : Hoist) (s : State) : Owner := if joint s then .pair else .hoist h

/-- The hoist of a dip's record (R112, R150). -/
def recordHoist (h : Hoist) (s : State) : RecordHoist := if joint s then .both else .one h

/-- f of a hoist's dip: f_pair for a pair (R111). -/
def dipFiltered (h : Hoist) (s : State) : Option Int :=
  if joint s then both (· + ·) s.channels.h1.filtered s.channels.h2.filtered else (s.channels.get h).filtered

/-- Settled, of a hoist's dip (R111). -/
def dipSettled (h : Hoist) (s : State) : Bool :=
  if joint s then channelSettled .h1 s && channelSettled .h2 s else channelSettled h s

/-- Moving clear, of a hoist's dip (R79, R112). -/
def dipStill (h : Hoist) (s : State) : Bool :=
  if joint s then channelStill .h1 s && channelStill .h2 s else channelStill h s

/-- Overload active, of a hoist's dip (R76, R111). -/
def dipOverload (h : Hoist) (s : State) : Bool :=
  if joint s then s.channels.h1.overload || s.channels.h2.overload else (s.channels.get h).overload

/-- The context as a return to IDLE leaves it: everything of the dip gone, the maintenance permit and the last jig
weigh kept (R75). -/
def Context.toIdle (c : Context) : Context := { Context.initial with permit := c.permit, jigWeigh := c.jigWeigh }

/-- The context as TAG LOAD leaves it (R78). -/
def Context.tagged (c : Context) (t : TagArgs) (link : PairLink) : Context :=
  { c.toIdle with state := .tagged, tag := some t, pair := link }

/-! ## Transitions -/

/-- Entry to WEIGHING: settle counts to 0 and the weigh timer loaded (R77, R88, R112). -/
def enterWeighing (ms : List Hoist) (pr : Profile) (s : State) : State :=
  let s := ms.foldl (fun s h => s.setChannel h { s.channels.get h with settle := 0 }) s
  modContexts ms (fun c => { c with
    state := .weighing, drainTimer := none, weighTimer := some (s.now + pr.weighTimeout * 100) }) s

/-- Entry to DRAINING: drain stamp, grounded inactive, drain dwell started; a drain dwell of 0 expires at once (R83,
R85, R86, R88). -/
def enterDraining (ms : List Hoist) (pr : Profile) (short : Bool) (s : State) : State :=
  let s := modContexts ms (fun c => { c with
    state := .draining, tDrain := some s.now, grounded := false,
    drainTimer := some (s.now + pr.drainDwell * 100),
    flags := { c.flags with shortImmersion := c.flags.shortImmersion || short } }) s
  if pr.drainDwell = 0 then enterWeighing ms pr s else s

/-- The figures of a tare capture (R79): S, NO_STEEL, A_exp, A_min, A_max from the settled weight. -/
def Context.capture (c : Context) (wDry : Int) (tare buoyancy now : Nat) : Context :=
  let sMass := (wDry - tare).toNat
  { c with
    state := .ready, reserved := true, wDry := some wDry, tTare := some now, sMass := some sMass,
    flags := { c.flags with noSteel := c.flags.noSteel || decide (wDry ≤ tare) },
    aExp := some (wDry - ((sMass * buoyancy / 1000 : Nat) : Int)), aMin := some wDry, aMax := some wDry,
    queueWait := false }

/-- The test of TAGGED (R79, R112): tare capture, or queue wait when no place is free. -/
def sampleTagged (h : Hoist) (s : State) : State :=
  match (s.contexts.get h).tag, tagProfile h s, dipFiltered h s with
  | some t, some pr, some f =>
    if (s.contexts.get h).pair != .partnerPending && dipSettled h s && dipStill h s then
      if placeFree s then
        modContexts (members h s)
          (fun c => c.capture f (((findJig t.jig s).map Jig.tare).getD 0) pr.buoyancy s.now) s
      else modContexts (members h s) (fun c => { c with queueWait := true }) s
    else s
  | _, _, _ => s

/-- The test of READY (R80, R113): claim submission. -/
def sampleReady (h : Hoist) (s : State) : State :=
  match (s.contexts.get h).tag, dipBottom h s with
  | some t, some b =>
    if b ≤ approachHeight s ∧ s.bath.hold = none then submitClaim (claimantOf h s) t.firstZone t.lastZone s else s
  | _, _ => s

/-- The test of LOWERING (R82). -/
def sampleLowering (h : Hoist) (s : State) : State :=
  match dipBottom h s, surface s with
  | some b, some y =>
    if b < y then
      modContexts (members h s)
        (fun c => { c with state := .entering, tEntry := some s.now, beenInBath := true }) s
    else s
  | _, _ => s

/-- Entry to IMMERSED: the first one sets the stamp and the dwell deadline (R77, R83); a re-entry from WITHDRAWING sets
RE_IMMERSED (R85). -/
def enterImmersed (ms : List Hoist) (pr : Profile) (again : Bool) (s : State) : State :=
  modContexts ms (fun c =>
    let c := { c with state := .immersed, flags := { c.flags with reImmersed := c.flags.reImmersed || again } }
    match c.tImmersion with
    | some _ => c
    | none => { c with tImmersion := some s.now, dwellDeadline := some (s.now + pr.minDwell * 100) }) s

/-- The tests of ENTERING (R83). -/
def sampleEntering (h : Hoist) (s : State) : State :=
  match tagProfile h s, dipBottom h s, dipTop h s, surface s with
  | some pr, some b, some t, some y =>
    if t ≤ y - pr.coverDepth then enterImmersed (members h s) pr false s
    else if y ≤ b then enterDraining (members h s) pr true s
    else s
  | _, _, _, _ => s

/-- Whether a context's immersion dwell has elapsed (R77). -/
def dwellElapsed (c : Context) (s : State) : Bool := due c.dwellDeadline s

/-- The transition test of IMMERSED (R84). -/
def sampleImmersed (h : Hoist) (s : State) : State :=
  match tagProfile h s, dipTop h s, surface s with
  | some pr, some t, some y =>
    if y - pr.coverDepth < t then
      modContexts (members h s) (fun c => { c with
        state := .withdrawing, tWithdrawal := some s.now,
        flags := { c.flags with shortImmersion := c.flags.shortImmersion || !dwellElapsed c s } }) s
    else s
  | _, _, _ => s

/-- The tests of WITHDRAWING (R85). -/
def sampleWithdrawing (h : Hoist) (s : State) : State :=
  match tagProfile h s, dipBottom h s, dipTop h s, surface s with
  | some pr, some b, some t, some y =>
    if t ≤ y - pr.coverDepth then enterImmersed (members h s) pr true s
    else if y ≤ b then enterDraining (members h s) pr false s
    else s
  | _, _, _, _ => s

/-- The claim of the dip released if it is held: the contexts' claim becomes none, then the arbiter frees the zones
(R89, R91, R107). -/
def releaseClaim (h : Hoist) (s : State) : State :=
  if (s.contexts.get h).claim = .held then
    releaseZones (claimantOf h s) (modContexts (members h s) (fun c => { c with claim := .none }) s)
  else s

/-- After a NORMAL or UNWEIGHED close: release the claim if still held, then return to IDLE (R91, R112). -/
def finishDip (h : Hoist) (s : State) : State :=
  modContexts (members h s) Context.toIdle (releaseClaim h s)

/-- A NORMAL close with this wet weight (R89, R91). -/
def dipNormal (h : Hoist) (wWet : Int) (s : State) : State :=
  match (s.contexts.get h).tag with
  | some t => finishDip h (closeNormal (s.contexts.get h) t (recordHoist h s) wWet s)
  | none => s

/-- The tests of WEIGHING, in order: release, then wet weight (R89, R112, R113). -/
def sampleWeighing (h : Hoist) (s : State) : State :=
  let s := match dipBottom h s with
    | some b => if approachHeight s ≤ b then releaseClaim h s else s
    | none => s
  match dipFiltered h s with
  | some f => if dipSettled h s then dipNormal h f s else s
  | none => s

/-- The exit test of ABANDONED, on the hoist's own bottom (R93, R116): a single dip's claim is released; a pair's is
released by the second of its contexts to leave. -/
def sampleAbandoned (h : Hoist) (s : State) : State :=
  match ownBottom h s with
  | some b =>
    if approachHeight s ≤ b then
      let c := s.contexts.get h
      let partner := s.contexts.get h.other
      let s := s.setContext h c.toIdle
      if c.pair = .paired then
        if partner.state = .abandoned ∧ partner.pair = .paired then s else releaseZones .pair s
      else releaseZones (.hoist h) s
    else s
  | none => s

/-- A jig weighing completed with the settled weight `f` (R95): the jig's tare becomes f clamped, its counts restart,
and the context returns to IDLE with the result. -/
def completeJigWeigh (h : Hoist) (f : Int) (s : State) : State :=
  let c := s.contexts.get h
  let tare := (clampInt 0 Config.tareMax f).toNat
  let result := if 0 ≤ f ∧ f ≤ Config.tareMax then JigResult.done else JigResult.tareClamped
  (modJig c.jigWeigh.jig (fun j => { j with tare, dips := 0, zinc := 0 }) s).setContext h
    { c with state := .idle, jigWeigh := { c.jigWeigh with result, tare, timer := none } }

/-- The test of JIG_WEIGH (R95). -/
def sampleJigWeigh (h : Hoist) (s : State) : State :=
  match (s.channels.get h).filtered with
  | some f => if channelSettled h s && channelStill h s then completeJigWeigh h f s else s
  | none => s

/-! ## The sample at a context (R76) -/

/-- Step 1: overload seen. -/
def markOverload (h : Hoist) (s : State) : State :=
  if (s.contexts.get h).state.inDip && dipOverload h s then
    modContexts (members h s) (fun c => { c with flags := { c.flags with overloadSeen := true } }) s
  else s

/-- Step 2: the transition test of the present state. -/
def transitionTest (h : Hoist) (s : State) : State :=
  match (s.contexts.get h).state with
  | .idle => s
  | .jigWeigh => sampleJigWeigh h s
  | .tagged => sampleTagged h s
  | .ready => sampleReady h s
  | .waitingZone => s
  | .lowering => sampleLowering h s
  | .entering => sampleEntering h s
  | .immersed => sampleImmersed h s
  | .withdrawing => sampleWithdrawing h s
  | .draining => s
  | .weighing => sampleWeighing h s
  | .abandoned => sampleAbandoned h s

/-- The grounding threshold: floor(W_dry × ground fraction / 1000) (R86). -/
def groundThreshold (wDry : Int) (pr : Profile) : Int := wDry * pr.groundFraction / 1000

/-- Whether a sample that found the context in state `found` and leaves it in `now'` makes the float test: a sample in
IMMERSED does, its transition test failed or taken (R84), and so does the sample that enters IMMERSED, which R76 leaves
in that state (log 10). -/
def floatTested (found now' : DipState) : Bool := found == .immersed || now' == .immersed

/-- The updates of R86 and, at a sample that found `found` and makes the float test, of R87 to one context. -/
def Context.inBathUpdate (c : Context) (pr : Profile) (f : Int) (found : DipState) : Context :=
  let grounded := decide (f < groundThreshold (c.wDry.getD 0) pr)
  let floats := floatTested found c.state && decide (f < c.aExp.getD 0 - pr.floatMargin)
  { c with
    aMin := some (min f (c.aMin.getD f)), aMax := some (max f (c.aMax.getD f)), grounded,
    floatLatched := c.floatLatched || floats,
    flags := { c.flags with grounded := c.flags.grounded || (grounded && !c.grounded)
                            float := c.flags.float || (floats && !c.floatLatched) } }

/-- Step 3: the in-bath updates, with the notices of their onsets, at a sample that found the context in `found` (R84,
R86, R87). -/
def inBathUpdates (h : Hoist) (found : DipState) (s : State) : State :=
  match tagProfile h s, dipFiltered h s with
  | some pr, some f =>
    let c := s.contexts.get h
    if c.state.inBath then
      let c' := c.inBathUpdate pr f found
      setNoticeIf (c'.floatLatched && !c.floatLatched) .floatAnomaly
        (setNoticeIf (c'.grounded && !c.grounded) .grounded
          (modContexts (members h s) (fun c => c.inBathUpdate pr f found) s))
    else s
  | _, _ => s

/-- A sample at a hoist's context: the three steps of R76, then the poll mode (R121). -/
def contextSample (h : Hoist) (s : State) : State :=
  syncPollMode (inBathUpdates h (s.contexts.get h).state (transitionTest h (markOverload h s)))

/-! ## Timers and isolation -/

/-- The drain dwell's expiry (R88). -/
def drainExpired (h : Hoist) (s : State) : State :=
  match tagProfile h s with
  | some pr => syncPollMode (enterWeighing (members h s) pr s)
  | none => s

/-- The weigh timer's expiry: close UNWEIGHED (R90). -/
def weighExpired (h : Hoist) (s : State) : State :=
  match (s.contexts.get h).tag with
  | some t => syncPollMode (finishDip h (closeUnweighed (s.contexts.get h) t (recordHoist h s) s))
  | none => s

/-- The jig weigh timer's expiry (R95). -/
def jigWeighExpired (h : Hoist) (s : State) : State :=
  let c := s.contexts.get h
  s.setContext h { c with state := .idle, jigWeigh := { c.jigWeigh with result := .timedOut, timer := none } }

/-- The context as the abort leaves it: ABANDONED with its tag, claim, float latch and figures; no reservation, the
drain dwell stopped, grounded inactive (R92). -/
def Context.abort (c : Context) : Context :=
  { c with state := .abandoned, drainTimer := none, grounded := false, reserved := false }

/-- NO_CONTACT set where the context is in LOWERING (R92). -/
def Context.markNoContact (c : Context) : Context :=
  { c with flags := { c.flags with noContact := c.flags.noContact || c.state == .lowering } }

/-- The report of an isolation to the hoist's context: the dip closes ABORTED and the context, with its pair partner,
enters ABANDONED (R92, R115). -/
def abortDip (h : Hoist) (s : State) : State :=
  match (s.contexts.get h).tag with
  | some t =>
    let ms := members h s
    let s := modContexts ms Context.markNoContact s
    let s := closeAborted (s.contexts.get h) t (recordHoist h s) s
    syncPollMode (modContexts ms Context.abort s)
  | none => s

end Sys2Proof.Machine
end

