-- ==== Sys2Proof/Machine/Limits.lean ====
section
/-! DEFINITION. Trap matching (R24 to R26) and motion limiting: the eleven limit sources, their composition, and the
rewriting of a MOTION request (R30 to R39, R55, R96 to R98, R108, R117, R127). -/

namespace Sys2Proof.Machine

/-! ## Traps -/

/-- A field matches under a mask (R24). -/
def maskedEq (x value mask : Byte) : Bool := x &&& mask == value &&& mask

/-- The three fields of an entry against a request's destination, code and payload (R24). A request with an empty
payload matches the first byte only under mask 0. -/
def TrapEntry.fieldsMatch (e : TrapEntry) (dest code : Byte) (payload : List Byte) : Bool :=
  maskedEq dest e.destValue e.destMask && maskedEq code e.codeValue e.codeMask
    && match payload.head? with
      | some b => maskedEq b e.firstValue e.firstMask
      | none => e.firstMask == 0

/-- A request to a station address. -/
def isStation (dest : Byte) (station : Option Nat) : Bool :=
  match station with
  | some a => dest.toNat == a
  | none => false

/-- OVER KETTLE: the request goes to its port's hoist station and that hoist's context is over the kettle or ABANDONED
(R25). A broadcast has no port. -/
def overKettleHolds (port : Option Port) (dest : Byte) (s : State) : Bool :=
  match port.bind Port.hoist with
  | some h =>
    isStation dest (s.tables.hoists.get h).station
      && ((s.contexts.get h).state.overKettle || (s.contexts.get h).state == .abandoned)
  | none => false

/-- Whether an entry decides a request (R24 to R26). -/
def TrapEntry.decides (e : TrapEntry) (port : Option Port) (f : Frame) (s : State) : Bool :=
  e.enabled && e.fieldsMatch f.dest f.code f.payload
    && match e.condition with
      | .always => true
      | .overKettle => overKettleHolds port f.dest s

/-- The first entry, by place, that decides a request (R26). -/
def firstTrap (port : Option Port) (f : Frame) (s : State) : List TrapEntry → Nat → Option (Nat × TrapAction)
  | [], _ => none
  | e :: es, i => if e.decides port f s then some (i, e.action) else firstTrap port f s es (i + 1)

/-- The trap entry that decides a request: its place from 0, and its action (R26). -/
def trapMatch (port : Option Port) (f : Frame) (s : State) : Option (Nat × TrapAction) :=
  firstTrap port f s s.tables.traps.toList 0

/-- A hit on an entry: its count rises by 1 or stays at 65,535, and TRAP HIT is set (R26). -/
def countHit (i : Nat) (s : State) : State :=
  setNotice .trapHit
    { s with trapHits := s.trapHits.setIfInBounds i (satAdd Config.count16Max ((s.trapHits[i]?).getD 0) 1) }

/-! ## Limit sources -/

/-- The limits a source gives; `none` where it does not restrict a direction (2.4). -/
structure Limits where
  up     : Option Nat
  down   : Option Nat
  travel : Option Nat
  deriving DecidableEq, Repr

/-- A source that is not active. -/
def Limits.free : Limits := { up := none, down := none, travel := none }

/-- Down 0 and nothing else. -/
def Limits.noDown : Limits := { Limits.free with down := some 0 }

/-- FAULT (R37). -/
def faultLimit (h : Hoist) (s : State) : Limits :=
  match (s.ports.get h.port).state with
  | .faulted | .isolated => { up := some 0, down := some 0, travel := some 0 }
  | .opened | .restarting => .free

/-- OPERATOR (R38). -/
def operatorLimit (h : Hoist) (s : State) : Limits :=
  { up := some (s.motion.get h).cap, down := some (s.motion.get h).cap, travel := none }

/-- RATED (R39). -/
def ratedLimit (h : Hoist) (s : State) : Limits :=
  let x := s.tables.hoists.get h
  { up := some x.ratedUp, down := some x.ratedDown, travel := some x.ratedTravel }

/-- The hook guard's down limit (R97). -/
def hookGuard (h : Hoist) (s : State) : Option Nat :=
  if (s.contexts.get h).permit then none
  else
    match hookHeight h s with
    | some y => if y ≤ approachHeight s then some 0 else none
    | none => some 0

/-- The STATE table of R96 for a hoist whose heights are known. -/
def stateTable (h : Hoist) (s : State) (pr : Profile) : Limits :=
  let c := s.contexts.get h
  match c.state with
  | .idle | .jigWeigh => { Limits.free with down := hookGuard h s }
  | .tagged =>
    match dipBottom h s with
    | some b => if b ≤ approachHeight s then .noDown else .free
    | none => .noDown
  | .ready | .waitingZone => .free
  | .lowering => { up := none, down := some pr.approachSpeed, travel := some 0 }
  | .entering => { up := some pr.entrySpeed, down := some pr.entrySpeed, travel := some 0 }
  | .immersed =>
    { up := some (if dwellElapsed c s then pr.withdrawSpeed else 0), down := some pr.entrySpeed, travel := some 0 }
  | .withdrawing => { up := some pr.withdrawSpeed, down := some pr.entrySpeed, travel := some 0 }
  | .draining => { up := some pr.drainSpeed, down := some 0, travel := some 0 }
  | .weighing => { Limits.free with travel := if c.claim = .held then some 0 else none }
  | .abandoned => { up := some pr.withdrawSpeed, down := some 0, travel := some 0 }

/-- A profile of zero speeds, for a tag whose profile is not in the table, which no run reaches (log 24). -/
def absentProfile : Profile :=
  { approachSpeed := 0, entrySpeed := 0, withdrawSpeed := 0, drainSpeed := 0, coverDepth := 0, minDwell := 0,
    drainDwell := 0, weighTimeout := 0, buoyancy := 0, floatMargin := 0, groundFraction := 0 }

/-- STATE (R96): in every state but IDLE and JIG_WEIGH, down 0 in place of the entry while there is no valid hook
height (for a pair driven as one, on either hoist: log 20). -/
def stateLimit (h : Hoist) (s : State) : Limits :=
  let l := stateTable h s ((tagProfile h s).getD absentProfile)
  match (s.contexts.get h).state with
  | .idle | .jigWeigh => l
  | _ => if (dipBottom h s).isNone then { l with down := some 0 } else l

/-- ZONE (R108). -/
def zoneLimit (h : Hoist) (s : State) : Limits :=
  if (s.contexts.get h).state = .waitingZone then .noDown else .free

/-- BATH (R127). -/
def bathLimit (h : Hoist) (s : State) : Limits :=
  match (s.contexts.get h).state, dipBottom h s with
  | .ready, some b | .waitingZone, some b | .lowering, some b =>
    if s.bath.hold.isSome && decide (b ≤ approachHeight s) then .noDown else .free
  | _, _ => .free

/-- DROSS (R98). -/
def drossLimit (h : Hoist) (s : State) : Limits :=
  match (s.contexts.get h).tag, dipBottom h s with
  | some t, some b =>
    match highestDross t.firstZone t.lastZone s.tables.zoneMap with
    | some x => if b ≤ x + s.tables.zoneMap.clearance then .noDown else .free
    | none => .free
  | _, _ => .free

/-- FLOAT (R87). -/
def floatLimit (h : Hoist) (s : State) : Limits := if (s.contexts.get h).floatLatched then .noDown else .free

/-- GROUNDED (R86). -/
def groundedLimit (h : Hoist) (s : State) : Limits := if (s.contexts.get h).grounded then .noDown else .free

/-- OVERLOAD (R55). -/
def overloadLimit (h : Hoist) (s : State) : Limits :=
  if (s.channels.get h).overload then { Limits.free with up := some (s.tables.hoists.get h).creep } else .free

/-- TILT (R117): the lower hook may not go down, nor the higher up. -/
def tiltLimit (h : Hoist) (s : State) : Limits :=
  if s.contexts.h1.pair = .paired ∧ s.contexts.h2.pair = .paired then
    match hookHeight h s, hookHeight h.other s with
    | some mine, some other' =>
      if (s.tables.zoneMap.tilt : Int) < other' - mine then .noDown
      else if (s.tables.zoneMap.tilt : Int) < mine - other' then { Limits.free with up := some 0 }
      else .free
    | _, _ => .free
  else .free

/-- The limits of a source for a hoist at this moment (R32, R36). -/
def limitsOf (src : LimitSource) (h : Hoist) (s : State) : Limits :=
  match src with
  | .fault => faultLimit h s
  | .operator => operatorLimit h s
  | .rated => ratedLimit h s
  | .state => stateLimit h s
  | .zone => zoneLimit h s
  | .bath => bathLimit h s
  | .dross => drossLimit h s
  | .float => floatLimit h s
  | .grounded => groundedLimit h s
  | .overload => overloadLimit h s
  | .tilt => tiltLimit h s

/-- The eleven sources in the tie order of R32. -/
def LimitSource.all : List LimitSource :=
  [.fault, .operator, .rated, .state, .zone, .bath, .dross, .float, .grounded, .overload, .tilt]

/-- The limits that the active sources give in a hoist direction, in tie order (R33). -/
def hoistLimits (d : HoistDir) (h : Hoist) (s : State) : List (LimitSource × Nat) :=
  LimitSource.all.filterMap (fun src =>
    (match d with
      | .up => (limitsOf src h s).up
      | .down => (limitsOf src h s).down
      | .stop => none).map (fun l => (src, l)))

/-- The travel limits of the active sources, in tie order (R33). -/
def travelLimits (h : Hoist) (s : State) : List (LimitSource × Nat) :=
  LimitSource.all.filterMap (fun src => (limitsOf src h s).travel.map (fun l => (src, l)))

/-- The least of a requested speed and the limits, with the governing limit: NONE where the request is no greater than
every limit, else the earliest source of the least limit (R33, R34). DEDUCED (log 39): so a requested speed of 0 in a
direction that is not STOP has governing limit NONE on a FAULTED port too, where the last sentence of R37's first paragraph
gives FAULT. -/
def composeLimits (requested : Nat) (ls : List (LimitSource × Nat)) : Nat × Option LimitSource :=
  ls.foldl (fun best l => if l.2 < best.1 then (l.2, some l.1) else best) (requested, none)

/-- The applied hoist speed and governing limit of a hoist axis (R33, R34). -/
def hoistAxis (v : MotionValues) (h : Hoist) (s : State) : Nat × Option LimitSource :=
  match v.hoistDir with
  | .stop => (0, none)
  | d => composeLimits v.hoistSpeed (hoistLimits d h s)

/-- The applied travel speed and governing limit (R33, R34). -/
def travelAxis (v : MotionValues) (h : Hoist) (s : State) : Nat × Option LimitSource :=
  match v.travelDir with
  | .stop => (0, none)
  | _ => composeLimits v.travelSpeed (travelLimits h s)

/-- The applied values: an applied speed of 0 makes its direction STOP (R33). -/
def appliedValues (v : MotionValues) (h : Hoist) (s : State) : MotionValues :=
  let a := (hoistAxis v h s).1
  let b := (travelAxis v h s).1
  { hoistDir := if a = 0 then .stop else v.hoistDir, hoistSpeed := a,
    travelDir := if b = 0 then .stop else v.travelDir, travelSpeed := b }

/-! ## The MOTION payload -/

/-- A hoist direction byte (12.1). -/
def hoistDirOf (b : Byte) : Option HoistDir :=
  match b.toNat with
  | 0 => some .stop
  | 1 => some .up
  | 2 => some .down
  | _ => none

/-- A travel direction byte (12.1). -/
def travelDirOf (b : Byte) : Option TravelDir :=
  match b.toNat with
  | 0 => some .stop
  | 1 => some .fore
  | 2 => some .aft
  | _ => none

/-- Hoist direction number (12.1). -/
def HoistDir.num : HoistDir → Nat
  | .stop => 0
  | .up => 1
  | .down => 2

/-- Travel direction number (12.1). -/
def TravelDir.num : TravelDir → Nat
  | .stop => 0
  | .fore => 1
  | .aft => 2

/-- The requested values of a well-formed MOTION payload, a STOP counted as speed 0; none for a payload that is not
well formed (R30, R31). -/
def motionRequest (p : List Byte) : Option MotionValues :=
  if p.length = 6 then
    match hoistDirOf (fieldByte p 0), travelDirOf (fieldByte p 3) with
    | some d, some e =>
      some { hoistDir := d, hoistSpeed := if d = .stop then 0 else fieldNat p 1 2,
             travelDir := e, travelSpeed := if e = .stop then 0 else fieldNat p 4 2 }
    | _, _ => none
  else none

/-- The six bytes of a MOTION payload (12.1). -/
def motionPayload (v : MotionValues) : List Byte :=
  beBytes 1 v.hoistDir.num ++ beBytes 2 v.hoistSpeed ++ beBytes 1 v.travelDir.num ++ beBytes 2 v.travelSpeed

/-- The payload sent down: unchanged where the applied values equal the requested ones, else the applied values
(R30, R33, log 12). -/
def limitedPayload (p : List Byte) (v : MotionValues) : List Byte :=
  if motionRequest p = some v then p else motionPayload v

/-- What motion limiting makes of a request (R33 to R35). -/
structure Limited where
  requested : MotionValues
  applied   : MotionValues
  govHoist  : Option LimitSource
  govTravel : Option LimitSource
  deriving DecidableEq, Repr

/-- A forwarded MOTION request limited (R30 to R34). A payload that is not well formed is a request to stop. -/
def limitMotion (p : List Byte) (h : Hoist) (s : State) : Limited :=
  let v := (motionRequest p).getD .stopped
  { requested := v, applied := appliedValues v h s, govHoist := (hoistAxis v h s).2,
    govTravel := (travelAxis v h s).2 }

/-- Whether a limited request is reduced (R35). -/
def Limited.reduced (l : Limited) : Bool :=
  decide (l.applied.hoistSpeed < l.requested.hoistSpeed) || decide (l.applied.travelSpeed < l.requested.travelSpeed)

end Sys2Proof.Machine
end

