-- ==== Sys2Proof/Machine/Weighing.lean ====
section
/-! DEFINITION. The weighing channel's stages at a sample (R50 to R57), and the telemetry block (12.1). -/

namespace Sys2Proof.Machine

/-- A telemetry block (12.1). -/
structure Telemetry where
  moving      : Bool
  loadValid   : Bool
  heightValid : Bool
  count       : Int
  height      : Int
  deriving DecidableEq, Repr

/-- The telemetry block in a hoist-station reply's payload; none when it is too short to hold one (R7, 12.1). -/
def telemetryOf (p : List Byte) : Option Telemetry :=
  if 6 ≤ p.length then
    some { moving := (fieldByte p 0).getLsbD 0, loadValid := (fieldByte p 0).getLsbD 1,
           heightValid := (fieldByte p 0).getLsbD 2, count := fieldInt p 1 3, height := fieldInt p 4 2 }
  else none

/-- The first stage of every sample: the flags, the count, and the height where valid (R50). -/
def Channel.recordBlock (c : Channel) (t : Telemetry) (now : Nat) : Channel :=
  { c with
    block := some { count := t.count, loadValid := t.loadValid, moving := t.moving }
    height := if t.heightValid then some { height := t.height, time := now } else c.height }

/-- The mass of a count, rounded and not yet clamped (R51). -/
def rawMass (count zero : Int) (gain : Nat) : Int := roundDiv ((count - zero) * gain) 65536

/-- Conversion and filter (R51, R52): m clamped, the over-range indication, f seeded or moved toward m. -/
def Channel.convert (c : Channel) (r : CalRecord) (count : Int) : Channel :=
  let raw := rawMass count (c.zero.getD r.zero) r.gain
  let m := clampInt Config.massMin Config.massMax raw
  { c with
    mass := some m
    overRange := m != raw
    filtered := match c.filtered with
      | none => some m
      | some f => some (f + minStep (m - f) (2 ^ r.shift)) }

/-- Settling (R53): the count rises at a steady sample and is 0 at any other. -/
def Channel.settleStage (c : Channel) (r : CalRecord) : Channel :=
  let m := c.mass.getD 0
  let f := c.filtered.getD 0
  { c with settle := if !c.overRange && decide ((m - f).natAbs ≤ r.settleBand) then min 255 (c.settle + 1) else 0 }

/-- Overload after a converted sample (R54). -/
def Channel.overloadStage (c : Channel) (r : CalRecord) : Channel :=
  let f := c.filtered.getD 0
  { c with
    overload := if c.overload then !decide (f < r.overThreshold - r.overHyst) else decide ((r.overThreshold : Int) < f) }

/-- The hook zero moved toward a count, held inside the fence (R56). -/
def trackZero (z count : Int) (r : CalRecord) : Int :=
  clampInt (r.zero - r.trackRange) (r.zero + r.trackRange) (z + minStep (count - z) 4096)

/-- Zero tracking after a converted sample, of an IDLE context with an empty, still hook (R56). -/
def Channel.trackStage (c : Channel) (r : CalRecord) (t : Telemetry) (idle : Bool) : Channel :=
  if idle && decide ((c.filtered.getD 0).natAbs ≤ r.zeroBand) && !t.moving then
    { c with zero := some (trackZero (c.zero.getD r.zero) t.count r) }
  else c

/-- A converted sample's stages, in order (R51 to R56). -/
def Channel.weigh (c : Channel) (r : CalRecord) (t : Telemetry) (idle : Bool) : Channel :=
  (((c.convert r t.count).settleStage r).overloadStage r).trackStage r t idle

/-- The channel after a sample (R50): not converted while uncalibrated; with load valid clear only the settle count
becomes 0. -/
def Channel.sample (c : Channel) (cal : Option CalRecord) (t : Telemetry) (idle : Bool) (now : Nat) : Channel :=
  let c := c.recordBlock t now
  match cal with
  | none => c
  | some r => if t.loadValid then c.weigh r t idle else { c with settle := 0 }

/-- A telemetry sample at a hoist: the channel's stages, the OVERLOAD notice at its onset, then the context
(R49 to R57). -/
def takeSample (h : Hoist) (t : Telemetry) (s : State) : State :=
  let c := s.channels.get h
  let c' := c.sample (s.tables.calibration.get h) t ((s.contexts.get h).state == .idle) s.now
  contextSample h (setNoticeIf (c'.overload && !c.overload) .overload (s.setChannel h c'))

end Sys2Proof.Machine
end

