-- ==== Sys2Proof/Machine/Link.lean ====
section
/-! DEFINITION. The link interface's own work: port errors and isolation (R12, R16), forwarding a request (R4 to R6),
frames that arrive on a downstream port (R7 to R9), and the port timers' expiries (R10, R13, R17, R19). -/

namespace Sys2Proof.Machine

/-! ## Port errors -/

/-- The error flag of a kind set (R12). -/
def PortUnit.mark (u : PortUnit) : PortError → PortUnit
  | .damaged => { u with errDamaged := true }
  | .stray => { u with errStray := true }
  | .timeout => { u with errTimeout := true }

/-- Whether a port error on this port isolates it: a hoist port with strict stop enabled and the context over the
kettle (R12, R16). -/
def strictStops (p : Port) (s : State) : Bool :=
  match Port.hoist p with
  | some h => (s.tables.ports.get p).strictStop && (s.contexts.get h).state.overKettle
  | none => false

/-- The request in a slot abandoned: answered with a local code if forwarded, and the slot freed (R16, R18). -/
def abandonSlot (p : Port) (lc : LocalCode) (s : State) : State :=
  match (s.ports.get p).slot with
  | some sl =>
    let s := s.setPort p { s.ports.get p with slot := none }
    answerSlot sl lc s
  | none => s

/-- Entry to ISOLATED, in the order of R16. -/
def isolate (h : Hoist) (s : State) : State :=
  let p := h.port
  let s := s.setPort p { s.ports.get p with state := .isolated, recovery := none }
  let s := abandonSlot p .portIsolated s
  let s := s.setPort p { s.ports.get p with pending := none }
  let s := setNotice .portIsolated s
  let s := abortDip h s
  let s := sendGenerated p .isolationStop s
  s.setPort p { s.ports.get p with stopTimer := some (s.now + Config.isolationInterval) }

/-- A port error counted on a port (R12); none in RESTARTING (R18). -/
def portError (p : Port) (e : PortError) (s : State) : State :=
  match (s.ports.get p).state with
  | .restarting => s
  | .isolated => setNotice .portFault (s.setPort p ((s.ports.get p).mark e))
  | .opened | .faulted =>
    let s := setNotice .portFault (s.setPort p ((s.ports.get p).mark e))
    match Port.hoist p, strictStops p s with
    | some h, true => isolate h s
    | _, _ =>
      s.setPort p { s.ports.get p with
        state := .faulted, recovery := some (s.now + (s.tables.ports.get p).recoveryTime) }

/-- The slot freed by a damaged frame or by the reply timer: a forwarded request is answered, then the error is
counted, then a pending request takes the slot if it still may (R8, R10, R20, R179, log 9). -/
def freeWithError (p : Port) (lc : LocalCode) (e : PortError) (s : State) : State :=
  let s := abandonSlot p lc s
  sendPending p (portError p e s)

/-! ## Forwarding a request from port U -/

/-- The frame of a forwarded request: header kept, attention 0, LIMITED sent 0 (R21, 12.1). -/
def forwardFrame (f : Frame) (payload : List Byte) : Frame :=
  { f with limited := false, attention := 0, payload }

/-- The hoist whose MOTION request this is: code MOTION, bound for a hoist port, to that hoist's station (R30). -/
def limitedHoist (p : Port) (f : Frame) (s : State) : Option Hoist :=
  match Port.hoist p with
  | some h => if f.code = codeMotion ∧ isStation f.dest (s.tables.hoists.get h).station then some h else none
  | none => none

/-- A limited MOTION request recorded and sent: requested and applied values, governing limits, sender and command
timer (R31 to R34, R41), and the slot with its limit result (R6, R35). -/
def forwardMotion (p : Port) (h : Hoist) (f : Frame) (s : State) : State :=
  let l := limitMotion f.payload h s
  let s := s.setMotion h { s.motion.get h with
    requested := l.requested, govHoist := l.govHoist, govTravel := l.govTravel }
  let s := sendDown p (forwardFrame f (limitedPayload f.payload l.applied)) s
  let s := takeSlot p (.forwarded f.src l.reduced) f.dest f.seq f.code s
  motionSent h l.applied .lineController s

/-- A request that passed the trap table, sent on its port (R4 steps 4 and 5, R6). -/
def forwardRequest (p : Port) (f : Frame) (s : State) : State :=
  match limitedHoist p f s with
  | some h => forwardMotion p h f s
  | none => takeSlot p (.forwarded f.src false) f.dest f.seq f.code (sendDown p (forwardFrame f f.payload) s)

/-- The local reply to a request that has just arrived (R11). -/
def answerRequest (f : Frame) (lc : LocalCode) (s : State) : State := localReply f.src f.dest f.seq f.code lc s

/-- A request bound for a port: port state, slot, trap table, then sent (R4). -/
def boundFor (p : Port) (f : Frame) (s : State) : State :=
  let u := s.ports.get p
  match u.state, u.slot with
  | .isolated, _ => answerRequest f .portIsolated s
  | .restarting, _ => answerRequest f .portRestarting s
  | _, some _ => answerRequest f .portBusy s
  | _, none =>
    match trapMatch (some p) f s with
    | some (i, .block) => answerRequest f .trapped (countHit i s)
    | some (i, .note) => forwardRequest p f (countHit i s)
    | none => forwardRequest p f s

/-- Whether a broadcast is sent on a port: OPEN or FAULTED, and no MOTION on a hoist port (R5). -/
def broadcastOn (p : Port) (f : Frame) (s : State) : Bool :=
  match (s.ports.get p).state with
  | .opened | .faulted => p == .k || f.code != codeMotion
  | .isolated | .restarting => false

/-- A broadcast sent on one port where it may go (R5). -/
def broadcastTo (p : Port) (f : Frame) (s : State) : State :=
  if broadcastOn p f s then sendDown p (forwardFrame f f.payload) s else s

/-- A broadcast sent on its ports (R5). DESIGN CHOICE (log 34): at the one event the frames go out in the order A, B, K;
the spec gives no order among the ports. -/
def sendBroadcast (f : Frame) (s : State) : State := broadcastTo .k f (broadcastTo .b f (broadcastTo .a f s))

/-- A broadcast: matched once, dropped by a BLOCK entry, else sent (R5, R26). -/
def broadcast (f : Frame) (s : State) : State :=
  match trapMatch none f s with
  | some (i, .block) => countHit i s
  | some (i, .note) => sendBroadcast f (countHit i s)
  | none => sendBroadcast f s

/-- A window serves an address (R2); a closed one serves none. -/
def Window.serves (w : Window) (a : Nat) : Bool := w.base ≤ a && a ≤ w.limit

/-- The port whose window holds an address (R4). -/
def routeOf (a : Nat) (s : State) : Option Port :=
  if Window.serves s.tables.ports.a.window a then some .a
  else if Window.serves s.tables.ports.b.window a then some .b
  else if Window.serves s.tables.ports.k.window a then some .k
  else none

/-- A request from port U that is neither a broadcast nor to the own address (R4). -/
def routeRequest (f : Frame) (s : State) : State :=
  match routeOf f.dest.toNat s with
  | some p => boundFor p f s
  | none => answerRequest f .noRoute s

/-! ## Frames on a downstream port -/

/-- A reply matches a slot: source and sequence number (R7). The code is not compared. -/
def Slot.matches (sl : Slot) (f : Frame) : Bool := f.reply && f.src == sl.dest && f.seq == sl.seq

/-- Steps 1 and 2 of R7: a hoist-station reply is weighed, a bath reply goes to the bath monitor. -/
def readReply (p : Port) (code : Byte) (f : Frame) (s : State) : State :=
  match Port.hoist p with
  | some h =>
    if isStation f.src (s.tables.hoists.get h).station then
      match telemetryOf f.payload with
      | some t => takeSample h t s
      | none => s
    else s
  | none =>
    if isStation f.src s.tables.bath.station && code == codeBathRead then
      match bathReadingOf f.payload with
      | some r => takeBathSample r s
      | none => s
    else s

/-- Step 3 of R7: a reply to a forwarded request goes up, LIMITED as the slot's limit result (R21, R35). -/
def replyUp (origin : SlotOrigin) (f : Frame) (s : State) : State :=
  match origin with
  | .forwarded _ reduced => sendUp { f with limited := reduced } s
  | .generated => s

/-- A reply that matches the slot: the slot is freed and a pending request takes it at once, then the three steps of
R7 (log 9). -/
def matchedReply (p : Port) (sl : Slot) (f : Frame) (s : State) : State :=
  let s := sendPending p (s.setPort p { s.ports.get p with slot := none })
  replyUp sl.origin f (readReply p sl.code f s)

/-- An undamaged frame on a port that is not RESTARTING: matched, or stray (R7, R9). -/
def undamagedFrame (p : Port) (f : Frame) (s : State) : State :=
  match (s.ports.get p).slot with
  | some sl => if sl.matches f then matchedReply p sl f s else portError p .stray s
  | none => portError p .stray s

/-- A frame received on a downstream port; on one in RESTARTING it is discarded (R7 to R9, R18). -/
def receiveDown (p : Port) (bytes : List Byte) (s : State) : State :=
  match (s.ports.get p).state with
  | .restarting => s
  | _ =>
    match parseFrame bytes with
    | some f => undamagedFrame p f s
    | none => freeWithError p .replyDamaged .damaged s

/-! ## Port timers -/

/-- The reply timer's expiry (R10). -/
def replyTimeout (p : Port) (s : State) : State :=
  match (s.ports.get p).slot with
  | some sl => if due (some sl.deadline) s then freeWithError p .noReply .timeout s else s
  | none => s

/-- The recovery timer's expiry on a FAULTED port; the error flags are kept (R13). -/
def recoveryExpired (p : Port) (s : State) : State :=
  let u := s.ports.get p
  if u.state == .faulted && due u.recovery s then s.setPort p { u with state := .opened, recovery := none } else s

/-- The isolation stop timer's expiry (R17): reloaded, and another stop falls due. -/
def stopTimerExpired (h : Hoist) (s : State) : State :=
  let u := s.ports.get h.port
  if u.state == .isolated && due u.stopTimer s then
    generatedDue h.port .isolationStop
      (s.setPort h.port { u with stopTimer := some (s.now + Config.isolationInterval) })
  else s

/-- The restart hold's expiry (R19): OPEN, error flags clear, recovery timer stopped, and the pending request sent. -/
def restartHoldExpired (p : Port) (s : State) : State :=
  let u := s.ports.get p
  if u.state == .restarting && due u.restartHold s then
    sendPending p (s.setPort p { u with
      state := .opened, restartHold := none, recovery := none, errDamaged := false, errStray := false,
      errTimeout := false })
  else s

/-- The command timer's expiry (R41): stopped, and a command-timeout STOP falls due where an applied speed is
nonzero; none is made for a hoist without a station (R29). -/
def commandTimerExpired (h : Hoist) (s : State) : State :=
  let m := s.motion.get h
  if due m.commandTimer s then
    let s := s.setMotion h { m with commandTimer := none }
    if (m.applied.hoistSpeed = 0 ∧ m.applied.travelSpeed = 0) ∨ (s.tables.hoists.get h).station = none then s
    else generatedDue h.port .commandStop s
  else s

/-- RESTART SEGMENT on a port, in the order of R18 (the DONE has been sent before). -/
def restartPort (p : Port) (s : State) : State :=
  let s := abandonSlot p .portRestarting s
  let u := s.ports.get p
  let s := s.setPort p { u with
    recovery := none, stopTimer := none,
    pending := if u.state = .isolated ∧ u.pending = some .isolationStop then none else u.pending }
  let s := advanceSeq (sendDown p (generatedFrame 0 codeStationRestart [] s) s)
  s.setPort p { s.ports.get p with state := .restarting, restartHold := some (s.now + Config.restartHold) }

end Sys2Proof.Machine
end

