-- ==== Sys2Proof/Machine/Clock.lean ====
section
/-! DEFINITION. The time counter (00_scope.md 4.1) and the timers that run out as it advances. The table of commands has
no row for the passing of time: time passes where no command waits (log 2). -/

namespace Sys2Proof.Machine

/-- A command that falls due when a timer has run out. -/
def whenDue (timer : Option Nat) (c : Instr) (s : State) : List Instr := if due timer s then [c] else []

/-- The timers of a port that have run out. -/
def portExpiries (p : Port) (s : State) : List Instr :=
  let u := s.ports.get p
  whenDue (u.slot.map Slot.deadline) (.replyTimerExpiry p) s
    ++ (if u.state = .faulted then whenDue u.recovery (.recoveryTimerExpiry p) s else [])
    ++ (match Port.hoist p with
      | some h => if u.state = .isolated then whenDue u.stopTimer (.isolationStopTimerExpiry h) s else []
      | none => [])
    ++ (if u.state = .restarting then whenDue u.restartHold (.restartHoldExpiry p) s else [])

/-- The timers of a hoist that have run out. -/
def hoistExpiries (h : Hoist) (s : State) : List Instr :=
  let c := s.contexts.get h
  whenDue (s.motion.get h).commandTimer (.commandTimerExpiry h) s
    ++ (if c.state = .draining then whenDue c.drainTimer (.drainDwellExpiry h) s else [])
    ++ (if c.state = .weighing then whenDue c.weighTimer (.weighTimerExpiry h) s else [])
    ++ (if c.state = .jigWeigh then whenDue c.jigWeigh.timer (.jigWeighTimerExpiry h) s else [])

/-- Every timer that has run out, in a fixed order (log 4). -/
def expiries (s : State) : List Instr :=
  portExpiries .a s ++ portExpiries .b s ++ portExpiries .k s ++ hoistExpiries .h1 s ++ hoistExpiries .h2 s
    ++ whenDue s.bath.pollTimer .pollTimerExpiry s
    ++ whenDue (s.bath.temperature.bind Figure.deadline) (.staleExpiry .temperature) s
    ++ whenDue (s.bath.level.bind Figure.deadline) (.staleExpiry .level) s
    ++ whenDue (s.save.map Save.deadline) .saveCompletion s

/-- One millisecond passes: the time counter advances by 1, and each timer that has run out gives its expiry to the
queue. Nothing else changes; a running timer is a deadline and needs no count (R77, log 2). -/
def tick (s : State) : State :=
  let s := { s with now := s.now + 1, sent := [] }
  { s with pending := s.pending ++ expiries s }

end Sys2Proof.Machine
end

