-- ==== Sys2Proof/Machine/Events.lean ====
section
/-! DEFINITION. The frames on the downstream ports and the expiries of the part's timers, one definition per command.
An expiry acts when its timer runs and the deadline has been reached; a timer that was stopped or reloaded has none
(R77, log 3). -/

namespace Sys2Proof.Machine

/-- DOWNSTREAM FRAME (R7 to R9, R18). -/
def execDownstreamFrame (p : Port) (bytes : List Byte) (s : State) : Host.Outcome State Fault Refusal :=
  .next (receiveDown p bytes s.begin)

/-- REPLY TIMER EXPIRY (R10). -/
def execReplyTimerExpiry (p : Port) (s : State) : Host.Outcome State Fault Refusal := .next (replyTimeout p s.begin)

/-- RECOVERY TIMER EXPIRY (R13). -/
def execRecoveryTimerExpiry (p : Port) (s : State) : Host.Outcome State Fault Refusal :=
  .next (recoveryExpired p s.begin)

/-- ISOLATION STOP TIMER EXPIRY (R17). -/
def execIsolationStopTimerExpiry (h : Hoist) (s : State) : Host.Outcome State Fault Refusal :=
  .next (stopTimerExpired h s.begin)

/-- RESTART HOLD EXPIRY (R19). -/
def execRestartHoldExpiry (p : Port) (s : State) : Host.Outcome State Fault Refusal :=
  .next (restartHoldExpired p s.begin)

/-- COMMAND TIMER EXPIRY (R41). -/
def execCommandTimerExpiry (h : Hoist) (s : State) : Host.Outcome State Fault Refusal :=
  .next (commandTimerExpired h s.begin)

/-- A context in a state with a timer that has run out. -/
def timerDue (st : DipState) (timer : Context → Option Nat) (h : Hoist) (s : State) : Bool :=
  (s.contexts.get h).state == st && due (timer (s.contexts.get h)) s

/-- DRAIN DWELL EXPIRY (R88). -/
def execDrainDwellExpiry (h : Hoist) (s : State) : Host.Outcome State Fault Refusal :=
  .next (if timerDue .draining Context.drainTimer h s.begin then drainExpired h s.begin else s.begin)

/-- WEIGH TIMER EXPIRY (R90). -/
def execWeighTimerExpiry (h : Hoist) (s : State) : Host.Outcome State Fault Refusal :=
  .next (if timerDue .weighing Context.weighTimer h s.begin then weighExpired h s.begin else s.begin)

/-- JIG WEIGH TIMER EXPIRY (R95). -/
def execJigWeighTimerExpiry (h : Hoist) (s : State) : Host.Outcome State Fault Refusal :=
  .next (if timerDue .jigWeigh (fun c => c.jigWeigh.timer) h s.begin then jigWeighExpired h s.begin else s.begin)

/-- POLL TIMER EXPIRY (R120): the timer stops and a poll falls due. -/
def execPollTimerExpiry (s : State) : Host.Outcome State Fault Refusal :=
  .next (if due s.bath.pollTimer s.begin then pollDue (s.begin.setBath { s.bath with pollTimer := none })
    else s.begin)

/-- STALE EXPIRY (R125). -/
def execStaleExpiry (fig : BathFigure) (s : State) : Host.Outcome State Fault Refusal :=
  .next (if due ((s.bath.figure fig).bind Figure.deadline) s.begin then staleExpired fig s.begin else s.begin)

end Sys2Proof.Machine
end

