-- ==== Sys2Proof/Machine/Operands.lean ====
section
/-! DEFINITION. Every operand form of a management request and every item form of its reply: the numbers that name a
hoist, port, zone, entry or group; the ranges of the tables' fields (R2, R15, R23, R29, R44, R61, R64, R101, R118,
R131, R138, R157); and the items, lists and pages of R183. -/

namespace Sys2Proof.Machine

/-! ## Numbers that name something -/

/-- Hoist 1 or 2. -/
def hoistOf (n : Nat) : Option Hoist :=
  match n with
  | 1 => some .h1
  | 2 => some .h2
  | _ => none

/-- Port 1, 2 or 3: A, B or K (R170). -/
def portOf (n : Nat) : Option Port :=
  match n with
  | 1 => some .a
  | 2 => some .b
  | 3 => some .k
  | _ => none

/-- Zone 1 to 4. -/
def zoneOf (n : Nat) : Option Zone :=
  match n with
  | 1 => some .z1
  | 2 => some .z2
  | 3 => some .z3
  | 4 => some .z4
  | _ => none

/-- Group 1 to 5 of SET NOTICE LEVELS (R182). -/
def groupOf (n : Nat) : Option Group :=
  match n with
  | 1 => some .dip
  | 2 => some .queue
  | 3 => some .link
  | 4 => some .bath
  | 5 => some .device
  | _ => none

/-- Notice kind 1 to 19 (R161). -/
def noticeOf (n : Nat) : Option Notice := Notice.all.find? (fun k => k.num == n)

/-- A two-valued item: 1 or 0, nothing else (R182, log 18). -/
def boolOf (n : Nat) : Option Bool :=
  match n with
  | 0 => some false
  | 1 => some true
  | _ => none

/-- A station address held, none for 0. -/
def stationOf (n : Nat) : Option Nat := if n = 0 then none else some n

/-- A trap condition (R23): 0 ALWAYS, 1 OVER KETTLE. -/
def conditionOf (n : Nat) : Option TrapCondition :=
  match n with
  | 0 => some .always
  | 1 => some .overKettle
  | _ => none

/-- A trap action (R23): 0 NOTE, 1 BLOCK. -/
def actionOf (n : Nat) : Option TrapAction :=
  match n with
  | 0 => some .note
  | 1 => some .block
  | _ => none

/-! ## Ranges -/

/-- `n` lies in `lo` to `hi`. -/
def within (lo hi n : Nat) : Bool := lo ≤ n && n ≤ hi

/-- `x` lies in `lo` to `hi`. -/
def withinInt (lo hi x : Int) : Bool := lo ≤ x && x ≤ hi

/-- A station address in use: 1 to 126 (R2). -/
def addressOk (n : Nat) : Bool := within 1 126 n

/-- A window's bounds lie in 1 to 126 (R3). -/
def Window.boundsOk (w : Window) : Bool := addressOk w.base && addressOk w.limit

/-- An open window holds an address; a closed one holds none (R2). -/
def Window.holds (w : Window) (a : Nat) : Bool := w.base ≤ a && a ≤ w.limit

/-- Two open windows share an address (R3). -/
def Window.overlaps (w v : Window) : Bool := max w.base v.base ≤ min w.limit v.limit

/-- The three windows pass the checks of R3 against an own address. -/
def windowsOk (own : Nat) (a b k : Window) : Bool :=
  Window.boundsOk a && Window.boundsOk b && Window.boundsOk k
    && !Window.holds a own && !Window.holds b own && !Window.holds k own
    && !Window.overlaps a b && !Window.overlaps a k && !Window.overlaps b k

/-- A port's timing settings lie in range (R15). -/
def timingOk (reply recovery : Nat) : Bool := within 1 50 reply && within 100 10000 recovery

/-- A hoist's settings lie in range (R29). -/
def HoistSettings.ok (x : HoistSettings) : Bool :=
  (match x.station with
    | some a => addressOk a
    | none => true)
    && within 1 600 x.ratedUp && within 1 600 x.ratedDown && within 1 1500 x.ratedTravel && x.creep ≤ x.ratedUp
    && withinInt (-20000) 20000 x.offset && within 50 2500 x.commandTimeout && x.commandTimeout % 10 == 0

/-- A trap entry's fields lie in range (R23). -/
def TrapEntry.ok (e : TrapEntry) : Bool := e.destValue.toNat ≤ 127 && e.destMask.toNat ≤ 127

/-- A calibration record's fields lie in range (R44). -/
def calOk (x : CalRecord) : Bool :=
  withinInt (-8388608) 8388607 x.zero && within 1 65535 x.gain && x.trackRange ≤ 65535 && x.zeroBand ≤ 5000
    && within 1 7 x.shift && within 1 5000 x.settleBand && within 2 64 x.settleCount && x.overThreshold ≤ 400000
    && x.overHyst ≤ 20000

/-- A profile's fields lie in range (R61). -/
def profileOk (x : Profile) : Bool :=
  x.approachSpeed ≤ 600 && x.entrySpeed ≤ 600 && x.withdrawSpeed ≤ 600 && x.drainSpeed ≤ 600 && x.coverDepth ≤ 500
    && within 1 6000 x.minDwell && x.drainDwell ≤ 3000 && within 50 1200 x.weighTimeout
    && within 600 900 x.buoyancy && x.floatMargin ≤ 20000 && within 10 500 x.groundFraction

/-- A jig's given figures lie in range (R64, R65). -/
def jigArgsOk (id tare allowance : Nat) : Bool := within 1 4095 id && tare ≤ Config.tareMax && allowance ≤ 5000

/-- A jig's fields lie in range (R64). -/
def Jig.ok (j : Jig) : Bool :=
  jigArgsOk j.id j.tare j.allowance && j.dips ≤ Config.count16Max && j.zinc ≤ Config.count32Max

/-- A zone record lies in range, its dross ceiling not below its floor (R101). -/
def ZoneRec.ok (z : ZoneRec) : Bool :=
  withinInt (-1000) 5000 z.floor && z.floor ≤ z.ceiling && z.ceiling ≤ 10000

/-- The zone map's items lie in range (R101). -/
def ZoneMap.ok (m : ZoneMap) : Bool :=
  m.zones.z1.ok && m.zones.z2.ok && m.zones.z3.ok && m.zones.z4.ok && m.rim ≤ 20000 && m.margin ≤ 2000
    && m.clearance ≤ 1000 && withinInt (-2000) 20000 m.emptyLevel && within 1 65535 m.massPerMm && within 10 1000 m.tilt

/-- The bath settings lie in range (R118). -/
def BathSettings.fieldsOk (b : BathSettings) : Bool :=
  (match b.station with
    | some a => addressOk a
    | none => true)
    && within 3500 5500 b.low && within 3500 5500 b.high && b.hysteresis ≤ 200 && within 2 120 b.staleTime
    && within 1 60 b.pollInterval && b.reconcile ≤ 10000000

/-- Low limit below high limit, and the release window not empty (R119, check 3). -/
def BathSettings.limitsOk (b : BathSettings) : Bool := b.low < b.high && b.low + 2 * b.hysteresis ≤ b.high

/-- A pickup band and hold count in range (R131, R132). -/
def bandOk (rMin rMax hold : Nat) : Bool := rMin ≤ 999 && rMax ≤ 999 && rMin ≤ rMax && hold ≤ 255

/-- A job number in range (R131). -/
def jobNumberOk (n : Nat) : Bool := within 1 999999 n

/-- A job account's fields lie in range (R131). -/
def Job.ok (j : Job) : Bool :=
  jobNumberOk j.number && bandOk j.rMin j.rMax j.holdCount && j.dips ≤ Config.count16Max
    && j.steel ≤ Config.count32Max && j.pickup ≤ Config.count32Max && j.underCount ≤ Config.count16Max
    && j.overCount ≤ Config.count16Max && j.unweighed ≤ Config.count16Max

/-- The kettle balance's law and ranges (R138): K = base + additions − removals − pickups + shortfall. The four running
totals are 64-bit counts that do not wrap in service, and have no bound here (log 7). -/
def Balance.ok (b : Balance) : Bool :=
  decide ((b.k : Int) = b.base + b.additions - b.removals - b.pickups + b.shortfall)
    && b.k ≤ Config.balanceMax && b.base ≤ Config.balanceMax && b.unweighed ≤ Config.count32Max

/-- A notice group's level in range (R157). -/
def GroupSetting.ok (g : GroupSetting) : Bool := g.level ≤ 3

/-- No two entries of a list are equal. -/
def allDistinct : List Nat → Bool
  | [] => true
  | x :: xs => !xs.contains x && allDistinct xs

/-- Every field of every stored table lies in its range and every constraint between fields holds (R172). -/
def Tables.ok (t : Tables) : Bool :=
  addressOk t.ownAddress
    && windowsOk t.ownAddress t.ports.a.window t.ports.b.window t.ports.k.window
    && timingOk t.ports.a.replyTimeout t.ports.a.recoveryTime
    && timingOk t.ports.b.replyTimeout t.ports.b.recoveryTime
    && timingOk t.ports.k.replyTimeout t.ports.k.recoveryTime && !t.ports.k.strictStop
    && t.traps.toList.all TrapEntry.ok && t.hoists.h1.ok && t.hoists.h2.ok
    && t.calibration.h1.all calOk && t.calibration.h2.all calOk
    && t.profiles.toList.all (fun p => p.all profileOk)
    && t.jigs.length ≤ Config.jigPlaces && t.jigs.all Jig.ok && allDistinct (t.jigs.map Jig.id)
    && t.zoneMap.ok && t.bath.fieldsOk && t.bath.limitsOk
    && t.jobs.length ≤ Config.jobPlaces && t.jobs.all Job.ok && allDistinct (t.jobs.map Job.number)
    && t.balance.ok
    && t.groups.dip.ok && t.groups.queue.ok && t.groups.link.ok && t.groups.bath.ok && t.groups.device.ok

/-! ## Items of a reading (R182, R183) -/

/-- An item of a reading: whole bytes, kept on one page. -/
abbrev Item := List Byte

/-- A two-valued item (R182). -/
def flagItem (b : Bool) : Item := beBytes 1 (bit b)

/-- An optional item: a presence byte, then the value, zeros when absent (R183). `w` is the value's width. -/
def optItem {α : Type} (w : Nat) (enc : α → Item) (x : Option α) : Item :=
  match x with
  | some v => 1 :: enc v
  | none => 0 :: List.replicate w 0

/-- A timer: running with the milliseconds left, or stopped. DESIGN CHOICE (log 33): the running or stopped byte is itself
the presence byte of the milliseconds. -/
def timerItem (now : Nat) (t : Option Nat) : Item := optItem 4 (fun d => beBytes 4 (d - now)) t

/-- A list item of hoists: a count byte, then their numbers (R183, log 15). DESIGN CHOICE (log 42): where a reading says
whether an entry is in use and by which hoists, the count byte alone says whether. -/
def hoistsItem (hs : List Hoist) : Item := beBytes 1 hs.length ++ hs.map (fun h => BitVec.ofNat 8 h.num)

/-- Items cut into pages at item boundaries, each page holding as many whole items as fit (R183). -/
def paginate : List Item → Item → List Item
  | [], page => [page]
  | it :: rest, page =>
    if page.length + it.length ≤ Config.pageBytes then paginate rest (page ++ it)
    else page :: paginate rest it

/-- The pages of a reading's items. -/
def pagesOf (items : List Item) : List Item := paginate items []

end Sys2Proof.Machine
end

