-- ==== Sys2Proof/Machine/Management.lean ====
section
/-! DEFINITION. The framing that every management request shares: the check for a save in flight (R167), the one reply
(R165), readings cut into pages (R183), and the start of a save (R173). -/

namespace Sys2Proof.Machine

/-- What an owning rule answers: the status, the reply data, and the state after the rule's effect. -/
structure Answer where
  status : Status
  data   : List Byte
  state  : State

/-- A refusal: the status alone, nothing changed (R166). -/
def refuse (st : Status) (s : State) : Answer := { status := st, data := [], state := s }

/-- DONE without reply data. -/
def accept (s : State) : Answer := { status := .done, data := [], state := s }

/-- A reading answered: page number, page count and the page's items; a page at or above the count is OUT OF RANGE
(R183). `s'` is the state after a DONE. -/
def readPage (page : Nat) (items : List Item) (s s' : State) : Answer :=
  match (pagesOf items)[page]? with
  | some body =>
    { status := .done, data := beBytes 1 page ++ beBytes 1 (pagesOf items).length ++ body, state := s' }
  | none => refuse .outOfRange s

/-- A management reply on port U: ORIGIN set, LIMITED clear, source the own address at the arrival, the attention value
of this moment (R165). -/
def reply (q : Req) (own code : Byte) (st : Status) (data : List Byte) (s : State) : State :=
  sendUp { dest := q.source, src := own, reply := true, origin := true, limited := false, attention := 0,
           seq := q.seq, code, payload := statusByte st :: data } s

/-- A management request taken whole (R164): refused BUSY when it changes a stored table and a save is in flight
(R167), else its owning rule, then the reply with the address held at the arrival. -/
def manage (q : Req) (code : Byte) (stored : Bool) (rule : State → Answer) (s : State) :
    Host.Outcome State Fault Refusal :=
  let s := s.begin
  if stored && s.save.isSome then .next (reply q (ownByte s) code .busy [] s)
  else
    let r := rule s
    .next (reply q (ownByte s) code r.status r.data r.state)

/-- A save started: a snapshot of every stored table, its deadline 400 ms on, and the image being overwritten
(R173). -/
def startSave (s : State) : State :=
  { s with save := some { snapshot := s.tables, deadline := s.now + Config.saveTime }, image := none }

/-- The hoists whose contexts hold a tag for which `f` holds (R62, R64, R131). -/
def hoistsTagged (f : TagArgs → Bool) (s : State) : List Hoist :=
  [Hoist.h1, Hoist.h2].filter (fun h => ((s.contexts.get h).tag.map f).getD false)

/-- The hoists whose contexts name a profile: every context but IDLE that holds a tag naming it (R62). -/
def profileUsers (n : Nat) (s : State) : List Hoist := hoistsTagged (fun t => t.profile == n) s

/-- The hoists whose tags name a job (R131). -/
def jobUsers (n : Nat) (s : State) : List Hoist := hoistsTagged (fun t => t.job == n) s

/-- Whether hoist `h` has a jig in use: named by its tag, or being weighed in JIG_WEIGH (R64). -/
def usesJig (h : Hoist) (n : Nat) (s : State) : Bool :=
  let c := s.contexts.get h
  ((c.tag.map (fun t => t.jig == n)).getD false) || (c.state == .jigWeigh && c.jigWeigh.jig == n)

/-- The hoists that have a jig in use (R64). -/
def jigUsers (n : Nat) (s : State) : List Hoist := [Hoist.h1, Hoist.h2].filter (fun h => usesJig h n s)

end Sys2Proof.Machine
end

