-- ==== Sys2Proof/Machine/BathRequests.lean ====
section
/-! DEFINITION. LOAD BATH SETTINGS and READ BATH (R119, R129). -/

namespace Sys2Proof.Machine

/-- The settings that LOAD BATH SETTINGS gives (R118). -/
def bathSettingsOf (x : BathArgs) : BathSettings :=
  { station := stationOf x.station, low := x.low, high := x.high, hysteresis := x.hysteresis, staleTime := x.staleTime,
    pollInterval := x.pollInterval, reconcile := x.reconcile }

/-- A figure's stale deadline under a new stale time: its time plus the stale time; one that now lies in the past has
passed (R119). -/
def Figure.redate (f : Figure) (staleTime now : Nat) : Figure :=
  let d := f.time + staleTime * 1000
  { f with deadline := if d < now then none else some d }

/-- A running stale deadline expires at the change of the stale time; a figure already stale does not expire again
(R119, R125, log 13). -/
def expiresAtChange (f : Option Figure) (staleTime now : Nat) : Bool :=
  match f with
  | some f => f.deadline.isSome && decide (f.time + staleTime * 1000 < now)
  | none => false

/-- The new stale time taken at once (R119). -/
def redateFigures (staleTime : Nat) (s : State) : State :=
  let b := s.bath
  let s := s.setBath { b with
    temperature := b.temperature.map (fun f => f.redate staleTime s.now)
    level := b.level.map (fun f => f.redate staleTime s.now) }
  if expiresAtChange b.temperature staleTime s.now || expiresAtChange b.level staleTime s.now then holdStale s else s

/-- The change of the bath station address (R119): from none, a poll falls due; to none, a pending poll is discarded
and the poll timer stops. -/
def changeBathStation (before after : Option Nat) (s : State) : State :=
  match before, after with
  | none, some _ => pollDue s
  | some _, none =>
    (s.setPort .k { s.ports.get .k with pending := none }).setBath { s.bath with pollTimer := none }
  | _, _ => s

/-- LOAD BATH SETTINGS's rule, its checks in order (R119). -/
def loadBathSettingsRule (x : BathArgs) (s : State) : Answer :=
  let b := bathSettingsOf x
  if bathActive s then refuse .notAllowed s
  else if !b.fieldsOk then refuse .outOfRange s
  else if !b.limitsOk then refuse .outOfRange s
  else
    let s' := redateFigures b.staleTime (s.setTables { s.tables with bath := b })
    accept (changeBathStation s.tables.bath.station b.station s')

/-- LOAD BATH SETTINGS (R119). -/
def execLoadBathSettings (q : Req) (x : BathArgs) (s : State) : Host.Outcome State Fault Refusal :=
  manage q 0xAC#8 true (loadBathSettingsRule x) s

/-- Number of a poll mode (R120, R182). -/
def PollMode.num : PollMode → Nat
  | .continuous => 0
  | .periodic => 1

/-- Number of a hold cause (R129, R182). -/
def HoldCause.num : HoldCause → Nat
  | .low => 0
  | .high => 1
  | .stale => 2

/-- The bath hold: set or clear, with its cause when set (R129, R168). DESIGN CHOICE (log 33): the set or clear byte is
itself the presence byte of the cause. -/
def holdItem (h : Option HoldCause) : Item := optItem 1 (fun c : HoldCause => beBytes 1 c.num) h

/-- A figure with its age and whether it is fresh (R123, R129). -/
def figureItem (now : Nat) (f : Option Figure) : Item :=
  optItem 9 (fun f : Figure => beInt 2 f.value ++ beBytes 6 (now - f.time) ++ flagItem (f.fresh now)) f

/-- The last quiet level sample: level, implied mass, age (R129, R143). -/
def quietItem (now : Nat) (q : Option QuietSample) : Item :=
  optItem 12 (fun q : QuietSample => beInt 2 q.level ++ beBytes 4 q.implied ++ beBytes 6 (now - q.time)) q

/-- The reconciliation difference D (R129, R143). -/
def differenceItem (q : Option QuietSample) : Item := optItem 4 (fun q : QuietSample => beInt 4 q.difference) q

/-- The items of READ BATH (R129). DESIGN CHOICE (log 32): the out-of-window count is one byte and the levels are two
bytes, widths that R182 does not list. -/
def bathItems (s : State) : List Item :=
  let x := s.tables.bath
  let b := s.bath
  [beBytes 1 (x.station.getD 0), beBytes 2 x.low, beBytes 2 x.high, beBytes 2 x.hysteresis, beBytes 1 x.staleTime,
   beBytes 1 x.pollInterval, beBytes 4 x.reconcile,
   beBytes 1 b.mode.num, timerItem s.now b.pollTimer, flagItem ((s.ports.get .k).pending == some .poll),
   optItem 6 (beBytes 6) b.lastPoll, figureItem s.now b.temperature, figureItem s.now b.level,
   beBytes 1 b.outCount, holdItem b.hold, flagItem (bathActive s), quietItem s.now b.quiet, differenceItem b.quiet]

/-- READ BATH's rule (R129). -/
def readBathRule (page : Nat) (s : State) : Answer := readPage page (bathItems s) s s

/-- READ BATH (R129). -/
def execReadBath (q : Req) (page : Nat) (s : State) : Host.Outcome State Fault Refusal :=
  manage q 0xAD#8 false (readBathRule page) s

end Sys2Proof.Machine
end

