-- ==== Sys2Proof/Machine/AccountRequests.lean ====
section
/-! DEFINITION. The requests of the job table, the kettle balance and the dip record queue (R132 to R137, R139 to R143,
R152, R153, R183). -/

namespace Sys2Proof.Machine

/-! ## Jobs -/

/-- OPEN JOB's rule, its checks in order (R132). -/
def openJobRule (job rMin rMax hold : Nat) (s : State) : Answer :=
  if !(jobNumberOk job && bandOk rMin rMax hold) then refuse .outOfRange s
  else if (findJob job s).isSome then refuse .duplicate s
  else if Config.jobPlaces ≤ s.tables.jobs.length then refuse .full s
  else
    accept (s.setJobs (s.tables.jobs ++ [{ number := job, rMin, rMax, holdCount := hold, status := .opened, dips := 0,
                                           steel := 0, pickup := 0, underCount := 0, overCount := 0,
                                           unweighed := 0 }]))

/-- OPEN JOB (R132). -/
def execOpenJob (q : Req) (job rMin rMax hold : Nat) (s : State) : Host.Outcome State Fault Refusal :=
  manage q 0xB0#8 true (openJobRule job rMin rMax hold) s

/-- SET JOB BAND's rule, its checks in order (R133). Check 1 of R132 covers the band and the hold count; a job number
out of range is in no table, so it is NOT FOUND. -/
def setJobBandRule (job rMin rMax hold : Nat) (s : State) : Answer :=
  if !bandOk rMin rMax hold then refuse .outOfRange s
  else
    match findJob job s with
    | none => refuse .notFound s
    | some j =>
      if j.status = .closed then refuse .notAllowed s
      else accept (modJob job (fun j => { j with rMin, rMax, holdCount := hold }) s)

/-- SET JOB BAND (R133). -/
def execSetJobBand (q : Req) (job rMin rMax hold : Nat) (s : State) : Host.Outcome State Fault Refusal :=
  manage q 0xB1#8 true (setJobBandRule job rMin rMax hold) s

/-- RESUME JOB's rule (R134). -/
def resumeJobRule (job : Nat) (s : State) : Answer :=
  match findJob job s with
  | none => refuse .notFound s
  | some j =>
    if j.status = .closed then refuse .notAllowed s
    else accept (modJob job (fun j => { j with status := .opened, overCount := 0 }) s)

/-- RESUME JOB (R134). -/
def execResumeJob (q : Req) (job : Nat) (s : State) : Host.Outcome State Fault Refusal :=
  manage q 0xB2#8 true (resumeJobRule job) s

/-- CLOSE JOB's rule (R135). -/
def closeJobRule (job : Nat) (s : State) : Answer :=
  if (findJob job s).isNone then refuse .notFound s
  else if !(jobUsers job s).isEmpty then refuse .inUse s
  else accept (modJob job (fun j => { j with status := .closed }) s)

/-- CLOSE JOB (R135). -/
def execCloseJob (q : Req) (job : Nat) (s : State) : Host.Outcome State Fault Refusal :=
  manage q 0xB3#8 true (closeJobRule job) s

/-- RELEASE JOB's rule (R136). -/
def releaseJobRule (job : Nat) (s : State) : Answer :=
  match findJob job s with
  | none => refuse .notFound s
  | some j =>
    if j.status ≠ .closed then refuse .notAllowed s
    else accept (s.setJobs (s.tables.jobs.filter (fun j => j.number != job)))

/-- RELEASE JOB (R136). -/
def execReleaseJob (q : Req) (job : Nat) (s : State) : Host.Outcome State Fault Refusal :=
  manage q 0xB4#8 true (releaseJobRule job) s

/-- Number of a job status (R131, R182). -/
def JobStatus.num : JobStatus → Nat
  | .opened => 0
  | .held => 1
  | .closed => 2

/-- The items of READ JOB: the fields of R131, then the hoists using it (R137, logs 15, 42). -/
def jobItems (j : Job) (s : State) : List Item :=
  [beBytes 2 j.rMin, beBytes 2 j.rMax, beBytes 1 j.holdCount, beBytes 1 j.status.num, beBytes 2 j.dips,
   beBytes 4 j.steel, beBytes 4 j.pickup, beBytes 2 j.underCount, beBytes 2 j.overCount, beBytes 2 j.unweighed,
   hoistsItem (jobUsers j.number s)]

/-- READ JOB's rule (R137). -/
def readJobRule (job page : Nat) (s : State) : Answer :=
  match findJob job s with
  | none => refuse .notFound s
  | some j => readPage page (jobItems j s) s s

/-- READ JOB (R137). -/
def execReadJob (q : Req) (job page : Nat) (s : State) : Host.Outcome State Fault Refusal :=
  manage q 0xB5#8 false (readJobRule job page) s

/-! ## The kettle balance -/

/-- A mass of a zinc request lies in 1 to 1,000,000 du (R139, R140). -/
def massOk (mass : Nat) : Bool := within 1 1000000 mass

/-- ZINC ADDED's rule, its checks in order (R139). -/
def zincAddedRule (mass : Nat) (s : State) : Answer :=
  let b := s.tables.balance
  if !massOk mass then refuse .outOfRange s
  else if Config.balanceMax < b.k + mass then refuse .outOfRange s
  else accept (s.setBalance { b with k := b.k + mass, additions := b.additions + mass })

/-- ZINC ADDED (R139). -/
def execZincAdded (q : Req) (mass : Nat) (s : State) : Host.Outcome State Fault Refusal :=
  manage q 0xB6#8 true (zincAddedRule mass) s

/-- The effect that DROSS REMOVED and ASH REMOVED share (R140). -/
def removalRule (mass : Nat) (s : State) : Answer :=
  let b := s.tables.balance
  if !massOk mass then refuse .outOfRange s
  else
    accept (setNoticeIf (decide (b.k < mass)) .balanceShortfall
      (s.setBalance ({ b with removals := b.removals + mass }.debit mass)))

/-- DROSS REMOVED (R140). -/
def execDrossRemoved (q : Req) (mass : Nat) (s : State) : Host.Outcome State Fault Refusal :=
  manage q 0xB7#8 true (removalRule mass) s

/-- ASH REMOVED (R140). -/
def execAshRemoved (q : Req) (mass : Nat) (s : State) : Host.Outcome State Fault Refusal :=
  manage q 0xB8#8 true (removalRule mass) s

/-- A balance set afresh: K and the base at a value, every total and count 0 (R141, R142). -/
def Balance.setTo (value : Nat) : Balance := { Balance.initial with k := value, base := value }

/-- SET BALANCE's rule (R141). -/
def setBalanceRule (value : Nat) (s : State) : Answer :=
  if Config.balanceMax < value then refuse .outOfRange s else accept (s.setBalance (Balance.setTo value))

/-- SET BALANCE (R141). -/
def execSetBalance (q : Req) (value : Nat) (s : State) : Host.Outcome State Fault Refusal :=
  manage q 0xB9#8 true (setBalanceRule value) s

/-- SET BALANCE TO LEVEL's rule, its checks in order (R142). -/
def setBalanceToLevelRule (s : State) : Answer :=
  match s.bath.quiet with
  | none => refuse .notAllowed s
  | some x =>
    if s.tables.bath.staleTime * 1000 < s.now - x.time then refuse .notAllowed s
    else if Config.balanceMax < x.implied then refuse .outOfRange s
    else accept (s.setBalance (Balance.setTo x.implied))

/-- SET BALANCE TO LEVEL (R142). -/
def execSetBalanceToLevel (q : Req) (s : State) : Host.Outcome State Fault Refusal :=
  manage q 0xBA#8 true setBalanceToLevelRule s

/-- The items of READ BALANCE (R143). -/
def balanceItems (s : State) : List Item :=
  let b := s.tables.balance
  [beBytes 4 b.k, beBytes 4 b.base, beBytes 8 b.additions, beBytes 8 b.removals, beBytes 8 b.pickups,
   beBytes 8 b.shortfall, beBytes 4 b.unweighed, quietItem s.now s.bath.quiet, differenceItem s.bath.quiet]

/-- READ BALANCE's rule (R143). -/
def readBalanceRule (page : Nat) (s : State) : Answer := readPage page (balanceItems s) s s

/-- READ BALANCE (R143). -/
def execReadBalance (q : Req) (page : Nat) (s : State) : Host.Outcome State Fault Refusal :=
  manage q 0xBB#8 false (readBalanceRule page) s

/-! ## The dip record queue -/

/-- Number of a dip outcome (R183). -/
def DipOutcome.num : DipOutcome → Nat
  | .normal => 0
  | .unweighed => 1
  | .aborted => 2

/-- Number of a record's hoist (R183). -/
def RecordHoist.num : RecordHoist → Nat
  | .one h => h.num
  | .both => 3

/-- A later time of a record: less the tare time, in tenths of a second, floored, at most 65,535; zeros when absent
(R183). -/
def laterTime (tare : Nat) (t : Option Nat) : List Byte :=
  match t with
  | some x => beBytes 2 (min 65535 ((x - tare) / 100))
  | none => [0, 0]

/-- The presence byte of a record (R183). DESIGN CHOICE (log 40): bit 7, which R183 does not give, is sent 0. -/
def presenceBits (r : Record) : Nat :=
  bit r.tEntry.isSome + 2 * bit r.tImmersion.isSome + 4 * bit r.tWithdrawal.isSome + 8 * bit r.tDrain.isSome
    + 16 * bit r.bath.isSome + 32 * bit r.wet.isSome + 64 * bit r.ratio.isSome

/-- Bytes 35 to 43: A_exp, A_min, A_max (R183). -/
def bathMassBytes (m : Option BathMasses) : List Byte :=
  match m with
  | some x => beInt 3 x.aExp ++ beInt 3 x.aMin ++ beInt 3 x.aMax
  | none => List.replicate 9 0

/-- Bytes 44 to 54: W_wet, P, J, Pw (R183). -/
def wetBytes (w : Option WetFigures) : List Byte :=
  match w with
  | some x => beInt 3 x.wWet ++ beBytes 3 x.pickup ++ beBytes 2 x.jigShare ++ beBytes 3 x.workShare
  | none => List.replicate 11 0

/-- Bytes 55 to 58: r, r_min and r_max, ten bits each (R183). -/
def bandBytes (w : Option WetFigures) (ratio : Option Nat) : List Byte :=
  beBytes 4 (ratio.getD 0 * 2 ^ 20 + (match w with
    | some x => x.rMin * 2 ^ 10 + x.rMax
    | none => 0))

/-- The 59 bytes of a dip record (R183). -/
def recordBytes (r : Record) : List Byte :=
  beBytes 2 r.seq.toNat ++ beBytes 1 (r.outcome.num + 4 * r.hoist.num) ++ beBytes 1 (r.token.getD 0)
    ++ beBytes 3 r.job ++ beBytes 2 r.jig ++ beBytes 1 r.profile ++ beBytes 1 (presenceBits r)
    ++ beBytes 2 (flagBits r.flags r.negPickup r.underBand r.overBand) ++ beBytes 6 r.tTare
    ++ laterTime r.tTare r.tEntry ++ laterTime r.tTare r.tImmersion ++ laterTime r.tTare r.tWithdrawal
    ++ laterTime r.tTare r.tDrain ++ laterTime r.tTare (some r.tClose)
    ++ beInt 3 r.wDry ++ beBytes 3 r.sMass ++ bathMassBytes r.bath ++ wetBytes r.wet ++ bandBytes r.wet r.ratio

/-- PEEK RECORD's rule (R152). -/
def peekRecordRule (s : State) : Answer :=
  match s.records with
  | [] => refuse .notFound s
  | r :: _ => { status := .done, data := recordBytes r, state := s }

/-- PEEK RECORD (R152). -/
def execPeekRecord (q : Req) (s : State) : Host.Outcome State Fault Refusal := manage q 0xBC#8 false peekRecordRule s

/-- TAKE RECORD's rule (R152). -/
def takeRecordRule (s : State) : Answer :=
  match s.records with
  | [] => refuse .notFound s
  | r :: rest => { status := .done, data := recordBytes r, state := { s with records := rest } }

/-- TAKE RECORD (R152). -/
def execTakeRecord (q : Req) (s : State) : Host.Outcome State Fault Refusal := manage q 0xBD#8 false takeRecordRule s

/-- Who holds each reserved place: 1, 2, or 3 for both hoists of a pair (R153, log 17). -/
def reservationHolders (s : State) : List Nat :=
  match s.contexts.h1.reserved, s.contexts.h2.reserved with
  | true, true => if s.contexts.h1.pair == .paired && s.contexts.h2.pair == .paired then [3] else [1, 2]
  | true, false => [1]
  | false, true => [2]
  | false, false => []

/-- The items of READ QUEUE (R153). DESIGN CHOICE (log 32): its counts are one byte each and its sequence numbers two,
widths that R182 does not list. DESIGN CHOICE (log 42): the number of places reserved is itself the count byte of the list
of their holders. -/
def queueItems (s : State) : List Item :=
  [beBytes 1 s.records.length,
   beBytes 1 (reservedPlaces s) ++ (reservationHolders s).map (BitVec.ofNat 8),
   beBytes 1 (Config.recordPlaces - (s.records.length + reservedPlaces s)),
   optItem 2 (fun r : Record => beBytes 2 r.seq.toNat) s.records.head?,
   beBytes 2 s.nextRecord.toNat]

/-- READ QUEUE's rule (R153). -/
def readQueueRule (page : Nat) (s : State) : Answer := readPage page (queueItems s) s s

/-- READ QUEUE (R153). -/
def execReadQueue (q : Req) (page : Nat) (s : State) : Host.Outcome State Fault Refusal :=
  manage q 0xBE#8 false (readQueueRule page) s

end Sys2Proof.Machine
end

