-- ==== Sys2Proof/Machine/DipRequests.lean ====
section
/-! DEFINITION. TAG LOAD, CANCEL LOAD, SET MAINTENANCE PERMIT, WEIGH JIG and READ CONTEXT (R69 to R71, R94, R99, R110,
R114). -/

namespace Sys2Proof.Machine

/-! ## TAG LOAD -/

/-- Check 5 of TAG LOAD: the job is present and OPEN (R69). -/
def tagJobCheck (x : TagArgs) (s : State) : Option Status :=
  match findJob x.job s with
  | none => some .notFound
  | some j =>
    match j.status with
    | .opened => none
    | .held => some .held
    | .closed => some .notAllowed

/-- Check 6: the jig is present and IN SERVICE (R69). -/
def tagJigCheck (x : TagArgs) (s : State) : Option Status :=
  match findJig x.jig s with
  | none => some .notFound
  | some j =>
    match j.status with
    | .inService => none
    | .withdrawn => some .notAllowed

/-- The other context is TAGGED, PARTNER PENDING, with the same nonzero token (R69, check 7). -/
def awaitsPartner (x : TagArgs) (other' : Context) : Bool :=
  x.token != 0 && other'.state == .tagged && other'.pair == .partnerPending
    && (other'.tag.map (fun t => t.token == x.token)).getD false

/-- Check 7: the jig is not in use by the other hoist, but for a partner (R69). -/
def tagJigShared (h : Hoist) (x : TagArgs) (s : State) : Option Status :=
  if usesJig h.other x.jig s && !awaitsPartner x (s.contexts.get h.other) then some .inUse else none

/-- Check 9: depths, zones and token in range (R69). -/
def tagRangesOk (x : TagArgs) : Bool :=
  within 100 12000 x.loadDepth && within 50 x.loadDepth x.workHeight && within 1 4 x.firstZone && within 1 4 x.lastZone
    && x.firstZone ≤ x.lastZone && x.token ≤ 255

/-- Check 10: every zone of the set is in service (R69). -/
def tagZonesInService (x : TagArgs) (m : ZoneMap) : Bool :=
  Zone.all.all (fun z => !inSet x.firstZone x.lastZone z || (m.zones.get z).inService)

/-- Two tags name the same job, jig, profile and zone set (R110). -/
def sameLoad (x t : TagArgs) : Bool :=
  x.job == t.job && x.jig == t.jig && x.profile == t.profile && x.firstZone == t.firstZone && x.lastZone == t.lastZone

/-- Check 11: a PARTNER PENDING context of the other hoist must agree with a paired request (R110). -/
def tagPairCheck (x : TagArgs) (other' : Context) : Option Status :=
  if x.token = 0 then none
  else
    match other'.pair, other'.tag with
    | .partnerPending, some t => if t.token = x.token ∧ sameLoad x t then none else some .pairMismatch
    | _, _ => none

/-- The first failing check of TAG LOAD from check 2 on (R69). -/
def tagCheck (h : Hoist) (x : TagArgs) (s : State) : Option Status :=
  let c := s.contexts.get h
  [if c.state = .idle then none else some .busy,
   if c.permit then some .notAllowed else none,
   if (s.tables.calibration.get h).isSome then none else some .notCalibrated,
   tagJobCheck x s, tagJigCheck x s, tagJigShared h x s,
   if (findProfile x.profile s).isSome then none else some .notFound,
   if tagRangesOk x then none else some .outOfRange,
   if tagZonesInService x s.tables.zoneMap then none else some .notAllowed,
   tagPairCheck x (s.contexts.get h.other)].findSome? id

/-- The effect of an accepted TAG LOAD: the context in TAGGED; with a nonzero token it joins a PARTNER PENDING context
as a pair, or is PARTNER PENDING itself (R78, R110). From its formation a pair holds its dip flags alike, so the context
that joins takes those the other has (R111, log 27). -/
def takeTag (h : Hoist) (x : TagArgs) (s : State) : State :=
  let c := s.contexts.get h
  let o := s.contexts.get h.other
  if x.token = 0 then s.setContext h (c.tagged x .none)
  else if o.pair = .partnerPending then
    (s.setContext h { c.tagged x .paired with flags := o.flags }).setContext h.other { o with pair := .paired }
  else s.setContext h (c.tagged x .partnerPending)

/-- The hoist's maintenance permit cleared (R71). -/
def clearPermit (h : Hoist) (s : State) : State := s.setContext h { s.contexts.get h with permit := false }

/-- TAG LOAD's rule (R69): a request that passes check 1 clears the permit, whatever answer it receives. -/
def tagLoadRule (x : TagArgs) (s : State) : Answer :=
  match hoistOf x.hoist with
  | none => refuse .outOfRange s
  | some h =>
    match tagCheck h x s with
    | some st => refuse st (clearPermit h s)
    | none => accept (takeTag h x (clearPermit h s))

/-- TAG LOAD (R69). -/
def execTagLoad (q : Req) (x : TagArgs) (s : State) : Host.Outcome State Fault Refusal :=
  manage q 0xA2#8 false (tagLoadRule x) s

/-! ## CANCEL LOAD -/

/-- The partner of a cancelled pair, as TAG LOAD left it and PARTNER PENDING again (R114). -/
def Context.orphaned (c : Context) : Context :=
  match c.tag with
  | some t => c.tagged t .partnerPending
  | none => c

/-- The effect of an accepted CANCEL LOAD: the waiting claim withdrawn, the place released, the tag discarded, the
context IDLE; a pair's other context stands PARTNER PENDING (R70, R114). -/
def cancelTag (h : Hoist) (s : State) : State :=
  let c := s.contexts.get h
  let o := s.contexts.get h.other
  let s := if c.state = .waitingZone then { s with waiting := none } else s
  let s := s.setContext h c.toIdle
  if c.pair = .paired ∧ o.pair = .paired then s.setContext h.other o.orphaned else s

/-- CANCEL LOAD's rule (R70). -/
def cancelLoadRule (hoist : Nat) (s : State) : Answer :=
  match hoistOf hoist with
  | none => refuse .outOfRange s
  | some h =>
    match (s.contexts.get h).state with
    | .idle => accept s
    | .tagged | .ready | .waitingZone => accept (cancelTag h s)
    | .lowering | .entering | .immersed | .withdrawing | .draining | .weighing | .abandoned => refuse .inBath s
    | .jigWeigh => refuse .notAllowed s

/-- CANCEL LOAD (R70). -/
def execCancelLoad (q : Req) (hoist : Nat) (s : State) : Host.Outcome State Fault Refusal :=
  manage q 0xA3#8 false (cancelLoadRule hoist) s

/-! ## SET MAINTENANCE PERMIT and WEIGH JIG -/

/-- SET MAINTENANCE PERMIT's rule (R71). -/
def setMaintenancePermitRule (hoist value : Nat) (s : State) : Answer :=
  match hoistOf hoist, boolOf value with
  | some h, some true =>
    if (s.contexts.get h).state = .idle then accept (s.setContext h { s.contexts.get h with permit := true })
    else refuse .notAllowed s
  | some h, some false => accept (clearPermit h s)
  | _, _ => refuse .outOfRange s

/-- SET MAINTENANCE PERMIT (R71). -/
def execSetMaintenancePermit (q : Req) (hoist value : Nat) (s : State) : Host.Outcome State Fault Refusal :=
  manage q 0xA4#8 false (setMaintenancePermitRule hoist value) s

/-- WEIGH JIG's rule, its checks in order (R94). -/
def weighJigRule (hoist jig : Nat) (s : State) : Answer :=
  match hoistOf hoist with
  | none => refuse .outOfRange s
  | some h =>
    let c := s.contexts.get h
    if c.state ≠ .idle then refuse .busy s
    else if (s.tables.calibration.get h).isNone then refuse .notCalibrated s
    else if (findJig jig s).isNone then refuse .notFound s
    else if !(jigUsers jig s).isEmpty then refuse .inUse s
    else
      accept (s.setContext h { c with
        state := .jigWeigh
        jigWeigh := { jig, result := .inProgress, tare := 0, timer := some (s.now + Config.jigWeighTime) } })

/-- WEIGH JIG (R94). -/
def execWeighJig (q : Req) (hoist jig : Nat) (s : State) : Host.Outcome State Fault Refusal :=
  manage q 0xA5#8 false (weighJigRule hoist jig) s

/-! ## READ CONTEXT -/

/-- Number of a dip state, in the order of chapter 5's table (R99, R182). -/
def DipState.num : DipState → Nat
  | .idle => 0
  | .jigWeigh => 1
  | .tagged => 2
  | .ready => 3
  | .waitingZone => 4
  | .lowering => 5
  | .entering => 6
  | .immersed => 7
  | .withdrawing => 8
  | .draining => 9
  | .weighing => 10
  | .abandoned => 11

/-- Number of a pair link (R99, R182). -/
def PairLink.num : PairLink → Nat
  | .none => 0
  | .partnerPending => 1
  | .paired => 2

/-- Number of a claim (R99, R182). -/
def Claim.num : Claim → Nat
  | .none => 0
  | .waiting => 1
  | .held => 2

/-- Number of a jig weigh result (R99, R182). -/
def JigResult.num : JigResult → Nat
  | .none => 0
  | .inProgress => 1
  | .done => 2
  | .tareClamped => 3
  | .timedOut => 4

/-- The tare of a jig weighing that set one (R99). -/
def JigWeigh.tareSet (j : JigWeigh) : Option Nat :=
  match j.result with
  | .done | .tareClamped => some j.tare
  | .none | .inProgress | .timedOut => none

/-- A time stamp (R99). -/
def stampItem (t : Option Nat) : Item := optItem 6 (beBytes 6) t

/-- The dwell of a context: whether it has elapsed, then the milliseconds left as an optional item, present while a
deadline is held that has not come (R99, R183, log 29). -/
def dwellItem (c : Context) (s : State) : Item :=
  flagItem (dwellElapsed c s) ++ timerItem s.now (c.dwellDeadline.filter (fun d => decide (s.now < d)))

/-- The items of READ CONTEXT (R99), in the model's order and numbers (log 16). The spec leaves open, and the model
chooses: the dip flags as two bytes in the bits of a record's flags (log 28), the form of the dwell (log 29), jig 0
beside the result NONE (log 30), a paired context's bottom and top as its own hoist's of R72 (log 31), and the widths of
the surface and the approach height (log 32). -/
def contextItems (h : Hoist) (s : State) : List Item :=
  let c := s.contexts.get h
  [beBytes 1 c.state.num, optItem 14 tagBytes c.tag, beBytes 1 c.pair.num, flagItem c.permit, flagItem c.queueWait,
   beBytes 1 c.claim.num, flagItem c.reserved,
   optItem 3 (beInt 3) c.wDry, optItem 3 (beBytes 3) c.sMass, optItem 3 (beInt 3) c.aExp,
   optItem 3 (beInt 3) c.aMin, optItem 3 (beInt 3) c.aMax,
   flagItem c.floatLatched, flagItem c.grounded, beBytes 2 (flagBits c.flags false false false),
   stampItem c.tTare, stampItem c.tEntry, stampItem c.tImmersion, stampItem c.tWithdrawal, stampItem c.tDrain,
   dwellItem c s,
   timerItem s.now c.drainTimer, timerItem s.now c.weighTimer, timerItem s.now c.jigWeigh.timer,
   optItem 3 (beInt 3) (ownBottom h s), optItem 3 (beInt 3) (ownTop h s),
   optItem 2 (beInt 2) (surface s), beInt 2 (approachHeight s),
   beBytes 2 c.jigWeigh.jig ++ beBytes 1 c.jigWeigh.result.num ++ optItem 3 (beBytes 3) c.jigWeigh.tareSet]

/-- READ CONTEXT's rule (R99). -/
def readContextRule (hoist page : Nat) (s : State) : Answer :=
  match hoistOf hoist with
  | none => refuse .outOfRange s
  | some h => readPage page (contextItems h s) s s

/-- READ CONTEXT (R99). -/
def execReadContext (q : Req) (hoist page : Nat) (s : State) : Host.Outcome State Fault Refusal :=
  manage q 0xA6#8 false (readContextRule hoist page) s

end Sys2Proof.Machine
end

