-- ==== Sys2Proof/Machine/LinkRequests.lean ====
section
/-! DEFINITION. LOAD WINDOWS, READ PORT STATUS, SET PORT TIMING and RESTART SEGMENT (R3, R14, R15, R18, R170). -/

namespace Sys2Proof.Machine

/-- LOAD WINDOWS's rule (R3). -/
def loadWindowsRule (wa wb wk : Window) (s : State) : Answer :=
  let t := s.tables
  if windowsOk t.ownAddress wa wb wk then
    accept (s.setTables { t with
      ports := { a := { t.ports.a with window := wa }, b := { t.ports.b with window := wb },
                 k := { t.ports.k with window := wk } } })
  else refuse .outOfRange s

/-- LOAD WINDOWS (R3). -/
def execLoadWindows (q : Req) (wa wb wk : Window) (s : State) : Host.Outcome State Fault Refusal :=
  manage q 0x83#8 true (loadWindowsRule wa wb wk) s

/-- Port state number (R12, R182). -/
def PortState.num : PortState → Nat
  | .opened => 0
  | .faulted => 1
  | .isolated => 2
  | .restarting => 3

/-- The code of a generated request (R14, R20). -/
def GenRequest.code : GenRequest → Byte
  | .commandStop | .isolationStop => codeMotion
  | .poll => codeBathRead

/-- A slot's origin, destination, sequence number and code (R14). -/
def slotBytes (sl : Slot) : Item :=
  [match sl.origin with
    | .forwarded _ _ => 0
    | .generated => 1, sl.dest, sl.seq, sl.code]

/-- The items of READ PORT STATUS (R14); strict stop is disabled for port K. DESIGN CHOICE (log 33): the byte that says
whether the slot is occupied, or a request pending, is itself the presence byte of what follows it. DESIGN CHOICE (log 41):
the three error flags stand in the order DAMAGED, STRAY, TIMEOUT, in which R12 names the kinds. -/
def portItems (p : Port) (s : State) : List Item :=
  let u := s.ports.get p
  let x := s.tables.ports.get p
  [beBytes 1 u.state.num,
   flagItem u.errDamaged ++ flagItem u.errStray ++ flagItem u.errTimeout,
   beBytes 4 (match u.recovery with
     | some d => d - s.now
     | none => 0),
   beBytes 1 x.replyTimeout ++ beBytes 2 x.recoveryTime,
   beBytes 1 x.window.base ++ beBytes 1 x.window.limit,
   flagItem (x.strictStop && p != .k),
   optItem 4 slotBytes u.slot,
   optItem 1 (fun g => [GenRequest.code g]) u.pending]

/-- READ PORT STATUS's rule: the flags of an OPEN port are reported and then cleared (R14). -/
def readPortStatusRule (port page : Nat) (s : State) : Answer :=
  match portOf port with
  | none => refuse .outOfRange s
  | some p =>
    let u := s.ports.get p
    readPage page (portItems p s) s
      (if u.state = .opened then
        s.setPort p { u with errDamaged := false, errStray := false, errTimeout := false }
      else s)

/-- READ PORT STATUS (R14). -/
def execReadPortStatus (q : Req) (port page : Nat) (s : State) : Host.Outcome State Fault Refusal :=
  manage q 0x84#8 false (readPortStatusRule port page) s

/-- SET PORT TIMING's rule (R15). -/
def setPortTimingRule (port replyTime recovery strict : Nat) (s : State) : Answer :=
  match portOf port, boolOf strict with
  | some p, some on =>
    if timingOk replyTime recovery && !(on && p == .k) then
      let t := s.tables
      accept (s.setTables { t with
        ports := t.ports.set p { t.ports.get p with
          replyTimeout := replyTime, recoveryTime := recovery, strictStop := on } })
    else refuse .outOfRange s
  | _, _ => refuse .outOfRange s

/-- SET PORT TIMING (R15). -/
def execSetPortTiming (q : Req) (port reply recovery strict : Nat) (s : State) :
    Host.Outcome State Fault Refusal :=
  manage q 0x85#8 true (setPortTimingRule port reply recovery strict) s

/-- RESTART SEGMENT is refused IN BATH: the hoist's context over the kettle and the port not ISOLATED (R18). -/
def restartRefused (p : Port) (s : State) : Bool :=
  match Port.hoist p with
  | some h => (s.contexts.get h).state.overKettle && (s.ports.get p).state != .isolated
  | none => false

/-- RESTART SEGMENT (R18, R170): the DONE is sent first, then the port is restarted. -/
def execRestartSegment (q : Req) (port : Nat) (s : State) : Host.Outcome State Fault Refusal :=
  let s := s.begin
  match portOf port with
  | none => .next (reply q (ownByte s) 0x86#8 .outOfRange [] s)
  | some p =>
    if restartRefused p s then .next (reply q (ownByte s) 0x86#8 .inBath [] s)
    else .next (restartPort p (reply q (ownByte s) 0x86#8 .done [] s))

end Sys2Proof.Machine
end

