-- ==== Sys2Proof/Machine/MotionRequests.lean ====
section
/-! DEFINITION. LOAD TRAP, READ TRAP, LOAD HOIST SETTINGS, SET OPERATOR CAP and READ MOTION (R27 to R29, R38, R40). -/

namespace Sys2Proof.Machine

/-- The entry that LOAD TRAP's fields give; none where one is no defined value or out of range (R23, R27). -/
def trapOf (x : TrapArgs) : Option TrapEntry :=
  match boolOf x.enabled, conditionOf x.condition, actionOf x.action with
  | some on, some c, some a =>
    let e : TrapEntry :=
      { enabled := on, destValue := x.destValue, destMask := x.destMask, codeValue := x.codeValue,
        codeMask := x.codeMask, firstValue := x.firstValue, firstMask := x.firstMask, condition := c, action := a }
    if e.ok then some e else none
  | _, _, _ => none

/-- LOAD TRAP's rule (R27). -/
def loadTrapRule (entry : Nat) (x : TrapArgs) (s : State) : Answer :=
  match within 1 8 entry, trapOf x with
  | true, some e =>
    accept { s with
      tables := { s.tables with traps := s.tables.traps.setIfInBounds (entry - 1) e }
      trapHits := s.trapHits.setIfInBounds (entry - 1) 0 }
  | _, _ => refuse .outOfRange s

/-- LOAD TRAP (R27). -/
def execLoadTrap (q : Req) (entry : Nat) (x : TrapArgs) (s : State) : Host.Outcome State Fault Refusal :=
  manage q 0x88#8 true (loadTrapRule entry x) s

/-- Trap condition number (R23, R182). -/
def TrapCondition.num : TrapCondition → Nat
  | .always => 0
  | .overKettle => 1

/-- Trap action number (R23, R182). -/
def TrapAction.num : TrapAction → Nat
  | .note => 0
  | .block => 1

/-- The items of READ TRAP (R28). -/
def trapItems (e : TrapEntry) (hits : Nat) : List Item :=
  [flagItem e.enabled, [e.destValue], [e.destMask], [e.codeValue], [e.codeMask], [e.firstValue], [e.firstMask],
   beBytes 1 e.condition.num, beBytes 1 e.action.num, beBytes 2 hits]

/-- READ TRAP's rule (R28). -/
def readTrapRule (entry page : Nat) (s : State) : Answer :=
  match within 1 8 entry, s.tables.traps[entry - 1]? with
  | true, some e => readPage page (trapItems e ((s.trapHits[entry - 1]?).getD 0)) s s
  | _, _ => refuse .outOfRange s

/-- READ TRAP (R28). -/
def execReadTrap (q : Req) (entry page : Nat) (s : State) : Host.Outcome State Fault Refusal :=
  manage q 0x89#8 false (readTrapRule entry page) s

/-- The settings that LOAD HOIST SETTINGS gives (R29). -/
def hoistSettingsOf (x : HoistArgs) : HoistSettings :=
  { station := stationOf x.station, ratedUp := x.ratedUp, ratedDown := x.ratedDown, ratedTravel := x.ratedTravel,
    creep := x.creep, offset := x.offset, commandTimeout := x.commandTimeout }

/-- The lower of a hoist's rated up and rated down speeds (R29, R38). -/
def HoistSettings.capMax (x : HoistSettings) : Nat := min x.ratedUp x.ratedDown

/-- LOAD HOIST SETTINGS is allowed: context IDLE, applied speeds 0, port not ISOLATED (R29). -/
def settingsAllowed (h : Hoist) (s : State) : Bool :=
  (s.contexts.get h).state == .idle && (s.motion.get h).applied.hoistSpeed == 0
    && (s.motion.get h).applied.travelSpeed == 0 && (s.ports.get h.port).state != .isolated

/-- LOAD HOIST SETTINGS's rule (R29). DESIGN CHOICE (log 38): where a case of OUT OF RANGE and one of NOT ALLOWED hold
together, the answer is OUT OF RANGE; R29 gives no order between them. -/
def loadHoistSettingsRule (hoist : Nat) (x : HoistArgs) (s : State) : Answer :=
  match hoistOf hoist with
  | none => refuse .outOfRange s
  | some h =>
    let v := hoistSettingsOf x
    if !v.ok then refuse .outOfRange s
    else if !settingsAllowed h s then refuse .notAllowed s
    else
      let m := s.motion.get h
      accept ((s.setTables { s.tables with hoists := s.tables.hoists.set h v }).setMotion h
        { m with cap := min m.cap v.capMax })

/-- LOAD HOIST SETTINGS (R29). -/
def execLoadHoistSettings (q : Req) (hoist : Nat) (x : HoistArgs) (s : State) : Host.Outcome State Fault Refusal :=
  manage q 0x8A#8 true (loadHoistSettingsRule hoist x) s

/-- SET OPERATOR CAP's rule (R38). -/
def setOperatorCapRule (hoist cap : Nat) (s : State) : Answer :=
  match hoistOf hoist with
  | none => refuse .outOfRange s
  | some h =>
    if cap ≤ (s.tables.hoists.get h).capMax then accept (s.setMotion h { s.motion.get h with cap })
    else refuse .outOfRange s

/-- SET OPERATOR CAP (R38). -/
def execSetOperatorCap (q : Req) (hoist cap : Nat) (s : State) : Host.Outcome State Fault Refusal :=
  manage q 0x8B#8 false (setOperatorCapRule hoist cap) s

/-- Number of a governing limit: 0 NONE, then the sources in the order of R32 (R40, R182). -/
def governingNum : Option LimitSource → Nat
  | none => 0
  | some .fault => 1
  | some .operator => 2
  | some .rated => 3
  | some .state => 4
  | some .zone => 5
  | some .bath => 6
  | some .dross => 7
  | some .float => 8
  | some .grounded => 9
  | some .overload => 10
  | some .tilt => 11

/-- Number of a last sender (R40, R182). -/
def MotionSender.num : MotionSender → Nat
  | .lineController => 0
  | .timeoutStop => 1
  | .isolationStop => 2

/-- A station address that may be none (R182). -/
def stationItem (a : Option Nat) : Item := beBytes 1 (a.getD 0)

/-- The six settings of a hoist as one item (R40, log 14). -/
def hoistSettingsItem (x : HoistSettings) : Item :=
  stationItem x.station ++ beBytes 2 x.ratedUp ++ beBytes 2 x.ratedDown ++ beBytes 2 x.ratedTravel
    ++ beBytes 2 x.creep ++ beInt 2 x.offset ++ beBytes 2 x.commandTimeout

/-- The items of READ MOTION for one hoist (R40). -/
def motionItems (h : Hoist) (s : State) : List Item :=
  let m := s.motion.get h
  [beBytes 1 m.requested.hoistDir.num ++ beBytes 2 m.requested.hoistSpeed,
   beBytes 1 m.requested.travelDir.num ++ beBytes 2 m.requested.travelSpeed,
   beBytes 1 m.applied.hoistDir.num ++ beBytes 2 m.applied.hoistSpeed,
   beBytes 1 m.applied.travelDir.num ++ beBytes 2 m.applied.travelSpeed,
   beBytes 1 (governingNum m.govHoist), beBytes 1 (governingNum m.govTravel), beBytes 1 m.sender.num,
   timerItem s.now m.commandTimer,
   flagItem ((s.ports.get h.port).pending == some .commandStop),
   beBytes 2 m.cap,
   hoistSettingsItem (s.tables.hoists.get h)]

/-- READ MOTION's rule: hoist 1, then hoist 2 (R40). -/
def readMotionRule (page : Nat) (s : State) : Answer :=
  readPage page (motionItems .h1 s ++ motionItems .h2 s) s s

/-- READ MOTION (R40). -/
def execReadMotion (q : Req) (page : Nat) (s : State) : Host.Outcome State Fault Refusal :=
  manage q 0x8C#8 false (readMotionRule page) s

end Sys2Proof.Machine
end

