-- ==== Sys2Proof/Machine/NoticeRequests.lean ====
section
/-! DEFINITION. READ NOTICES, CLEAR NOTICES and SET NOTICE LEVELS (R160 to R162, R183). -/

namespace Sys2Proof.Machine

/-- A count byte and the kind numbers set, in table order (R183). -/
def kindBytes (f : NoticeFlags) : List Byte :=
  beBytes 1 f.kinds.length ++ f.kinds.map (fun n => BitVec.ofNat 8 n.num)

/-- A group byte: bit 7 the enable, bits 1 and 0 the level (R183). DESIGN CHOICE (log 36): bits 6 to 2, which R183 does not
give, are sent 0. -/
def groupByte (g : GroupSetting) : Byte := BitVec.ofNat 8 (128 * bit g.enabled + g.level % 4)

/-- READ NOTICES's rule (R160). -/
def readNoticesRule (s : State) : Answer :=
  { status := .done
    data := kindBytes s.notices ++ Group.all.map (fun g => groupByte (s.tables.groups.get g))
      ++ beBytes 1 (attention s)
    state := s }

/-- READ NOTICES (R160). -/
def execReadNotices (q : Req) (s : State) : Host.Outcome State Fault Refusal := manage q 0x94#8 false readNoticesRule s

/-- Whether any port is FAULTED (R161). -/
def anyFaulted (s : State) : Bool :=
  s.ports.a.state == .faulted || s.ports.b.state == .faulted || s.ports.k.state == .faulted

/-- One named kind cleared; PORT FAULT stays while any port is FAULTED (R161). -/
def clearKind (faulted : Bool) (f : NoticeFlags) (n : Notice) : NoticeFlags :=
  if n = .portFault ∧ faulted then f else f.set n false

/-- CLEAR NOTICES's rule (R161): the kinds still set are listed in the reply. -/
def clearNoticesRule (kinds : List Nat) (s : State) : Answer :=
  if kinds.all (fun n => (noticeOf n).isSome) then
    let f := (kinds.filterMap noticeOf).foldl (clearKind (anyFaulted s)) s.notices
    { status := .done, data := kindBytes f, state := { s with notices := f } }
  else refuse .outOfRange s

/-- CLEAR NOTICES (R161). More than 19 kinds is a payload length its code does not admit (R167). -/
def execClearNotices (q : Req) (kinds : List Nat) (s : State) : Host.Outcome State Fault Refusal :=
  manage q 0x95#8 false (fun s => if kinds.length ≤ 19 then clearNoticesRule kinds s else refuse .badRequest s) s

/-- SET NOTICE LEVELS's rule (R162). -/
def setNoticeLevelsRule (group level enable : Nat) (s : State) : Answer :=
  match groupOf group, boolOf enable with
  | some g, some on =>
    if level ≤ 3 then
      accept (s.setTables { s.tables with groups := s.tables.groups.set g { level, enabled := on } })
    else refuse .outOfRange s
  | _, _ => refuse .outOfRange s

/-- SET NOTICE LEVELS (R162). -/
def execSetNoticeLevels (q : Req) (group level enable : Nat) (s : State) : Host.Outcome State Fault Refusal :=
  manage q 0x96#8 true (setNoticeLevelsRule group level enable) s

end Sys2Proof.Machine
end

