-- ==== Sys2Proof/Machine/TableRequests.lean ====
section
/-! DEFINITION. The profile and jig tables' requests (R62, R63, R65 to R67). -/

namespace Sys2Proof.Machine

/-- A profile as LOAD PROFILE writes it: a buoyancy factor of 0 is taken as 841 (R62). -/
def profileOf (x : Profile) : Profile :=
  { x with buoyancy := if x.buoyancy = 0 then Config.defaultBuoyancy else x.buoyancy }

/-- A profile place written. -/
def setProfile (n : Nat) (x : Option Profile) (s : State) : State :=
  s.setTables { s.tables with profiles := s.tables.profiles.setIfInBounds (n - 1) x }

/-- LOAD PROFILE's rule, its checks in order (R62). -/
def loadProfileRule (number : Nat) (x : Profile) (s : State) : Answer :=
  if !within 1 16 number then refuse .outOfRange s
  else if !profileOk (profileOf x) then refuse .outOfRange s
  else if (findProfile number s).isSome && !(profileUsers number s).isEmpty then refuse .inUse s
  else accept (setProfile number (some (profileOf x)) s)

/-- LOAD PROFILE (R62). -/
def execLoadProfile (q : Req) (number : Nat) (x : Profile) (s : State) : Host.Outcome State Fault Refusal :=
  manage q 0x98#8 true (loadProfileRule number x) s

/-- REMOVE PROFILE's rule (R63). -/
def removeProfileRule (number : Nat) (s : State) : Answer :=
  if !within 1 16 number then refuse .outOfRange s
  else if (findProfile number s).isNone then refuse .notFound s
  else if !(profileUsers number s).isEmpty then refuse .inUse s
  else accept (setProfile number none s)

/-- REMOVE PROFILE (R63). -/
def execRemoveProfile (q : Req) (number : Nat) (s : State) : Host.Outcome State Fault Refusal :=
  manage q 0x99#8 true (removeProfileRule number) s

/-- READ PROFILE's rule: every field, then the hoists that name it (R63, logs 15, 42). -/
def readProfileRule (number page : Nat) (s : State) : Answer :=
  if !within 1 16 number then refuse .outOfRange s
  else
    match findProfile number s with
    | none => refuse .notFound s
    | some x => readPage page (profileItems x ++ [hoistsItem (profileUsers number s)]) s s

/-- READ PROFILE (R63). -/
def execReadProfile (q : Req) (number page : Nat) (s : State) : Host.Outcome State Fault Refusal :=
  manage q 0x9A#8 false (readProfileRule number page) s

/-- LOAD JIG's rule, its checks in order (R65). -/
def loadJigRule (jig tare allowance : Nat) (s : State) : Answer :=
  if !jigArgsOk jig tare allowance then refuse .outOfRange s
  else
    match findJig jig s with
    | some _ =>
      if !(jigUsers jig s).isEmpty then refuse .inUse s
      else accept (modJig jig (fun j => { j with tare, allowance, dips := 0, zinc := 0 }) s)
    | none =>
      if Config.jigPlaces ≤ s.tables.jigs.length then refuse .full s
      else
        accept (s.setJigs (s.tables.jigs ++ [{ id := jig, tare, allowance, dips := 0, zinc := 0,
                                               status := .inService }]))

/-- LOAD JIG (R65). -/
def execLoadJig (q : Req) (jig tare allowance : Nat) (s : State) : Host.Outcome State Fault Refusal :=
  manage q 0x9C#8 true (loadJigRule jig tare allowance) s

/-- WITHDRAW JIG's rule (R66). -/
def withdrawJigRule (jig : Nat) (s : State) : Answer :=
  if (findJig jig s).isNone then refuse .notFound s
  else if !(jigUsers jig s).isEmpty then refuse .inUse s
  else accept (modJig jig (fun j => { j with status := .withdrawn }) s)

/-- WITHDRAW JIG (R66). -/
def execWithdrawJig (q : Req) (jig : Nat) (s : State) : Host.Outcome State Fault Refusal :=
  manage q 0x9D#8 true (withdrawJigRule jig) s

/-- RETURN JIG's rule (R66). -/
def returnJigRule (jig : Nat) (s : State) : Answer :=
  if (findJig jig s).isNone then refuse .notFound s
  else accept (modJig jig (fun j => { j with status := .inService }) s)

/-- RETURN JIG (R66). -/
def execReturnJig (q : Req) (jig : Nat) (s : State) : Host.Outcome State Fault Refusal :=
  manage q 0x9E#8 true (returnJigRule jig) s

/-- REMOVE JIG's rule (R67). -/
def removeJigRule (jig : Nat) (s : State) : Answer :=
  if (findJig jig s).isNone then refuse .notFound s
  else if !(jigUsers jig s).isEmpty then refuse .inUse s
  else accept (s.setJigs (s.tables.jigs.filter (fun j => j.id != jig)))

/-- REMOVE JIG (R67). -/
def execRemoveJig (q : Req) (jig : Nat) (s : State) : Host.Outcome State Fault Refusal :=
  manage q 0x9F#8 true (removeJigRule jig) s

/-- The items of READ JIG: the fields of R64, then the hoists using it (R67, logs 15, 42). -/
def jigItems (j : Jig) (s : State) : List Item :=
  [beBytes 3 j.tare, beBytes 2 j.allowance, beBytes 2 j.dips, beBytes 4 j.zinc, flagItem (j.status == .inService),
   hoistsItem (jigUsers j.id s)]

/-- READ JIG's rule (R67). -/
def readJigRule (jig page : Nat) (s : State) : Answer :=
  match findJig jig s with
  | none => refuse .notFound s
  | some j => readPage page (jigItems j s) s s

/-- READ JIG (R67). -/
def execReadJig (q : Req) (jig page : Nat) (s : State) : Host.Outcome State Fault Refusal :=
  manage q 0xA0#8 false (readJigRule jig page) s

end Sys2Proof.Machine
end

