-- ==== Sys2Proof/Machine/WeighRequests.lean ====
section
/-! DEFINITION. LOAD CALIBRATION, LOCK CALIBRATION, REZERO HOOK and READ WEIGHT (R45, R46, R58, R59). -/

namespace Sys2Proof.Machine

/-- The channel as LOAD CALIBRATION leaves it (R45): last count, moving flag and height kept. DESIGN CHOICE (log 35): the
over-range indication, which R45 makes absent, is held and reported as clear, as R60 has it after a reset. -/
def Channel.recalibrate (c : Channel) (x : CalRecord) : Channel :=
  { c with zero := some x.zero, filtered := none, settle := 0, overload := false, mass := none, overRange := false }

/-- LOAD CALIBRATION's rule, its checks in order (R45). -/
def loadCalibrationRule (hoist : Nat) (x : CalRecord) (s : State) : Answer :=
  match hoistOf hoist with
  | none => refuse .outOfRange s
  | some h =>
    if s.tables.calibrationLock then refuse .locked s
    else if (s.contexts.get h).state ≠ .idle then refuse .notAllowed s
    else if !calOk x then refuse .outOfRange s
    else
      accept ((s.setTables { s.tables with calibration := s.tables.calibration.set h (some x) }).setChannel h
        ((s.channels.get h).recalibrate x))

/-- LOAD CALIBRATION (R45). -/
def execLoadCalibration (q : Req) (hoist : Nat) (x : CalRecord) (s : State) : Host.Outcome State Fault Refusal :=
  manage q 0x90#8 true (loadCalibrationRule hoist x) s

/-- LOCK CALIBRATION's rule (R46): the save it starts holds the lock set. -/
def lockCalibrationRule (s : State) : Answer :=
  if s.tables.calibrationLock then accept s
  else if s.tables.calibration.h1.isNone || s.tables.calibration.h2.isNone then refuse .notCalibrated s
  else accept (startSave (s.setTables { s.tables with calibrationLock := true }))

/-- LOCK CALIBRATION (R46). -/
def execLockCalibration (q : Req) (s : State) : Host.Outcome State Fault Refusal :=
  manage q 0x91#8 true lockCalibrationRule s

/-- REZERO HOOK is allowed: context IDLE, a telemetry block held, moving clear, load valid (R58, check 3). -/
def rezeroAllowed (h : Hoist) (s : State) : Option Block :=
  match (s.contexts.get h).state, (s.channels.get h).block with
  | .idle, some b => if !b.moving && b.loadValid then some b else none
  | _, _ => none

/-- REZERO HOOK's rule, its checks in order (R58). -/
def rezeroHookRule (hoist : Nat) (s : State) : Answer :=
  match hoistOf hoist with
  | none => refuse .outOfRange s
  | some h =>
    match s.tables.calibration.get h with
    | none => refuse .notCalibrated s
    | some r =>
      match rezeroAllowed h s with
      | none => refuse .notAllowed s
      | some b =>
        if withinInt (r.zero - r.trackRange) (r.zero + r.trackRange) b.count then
          accept (s.setChannel h { s.channels.get h with zero := some b.count, filtered := none, settle := 0 })
        else refuse .outOfRange s

/-- REZERO HOOK (R58). -/
def execRezeroHook (q : Req) (hoist : Nat) (s : State) : Host.Outcome State Fault Refusal :=
  manage q 0x92#8 false (rezeroHookRule hoist) s

/-- Number of a channel's condition: UNCALIBRATED, UNSEEDED, SEEDED (R48, R59). -/
def conditionNum (h : Hoist) (s : State) : Nat :=
  if (s.tables.calibration.get h).isNone then 0 else if (s.channels.get h).filtered.isNone then 1 else 2

/-- The items of READ WEIGHT (R59). DESIGN CHOICE (log 32): the hook zero z is three bytes, signed, the settle count
one byte and the hook height two, widths that R182 does not list; over-range with no converted mass is sent as 0 (log 35);
overload active is sent as 1 (log 43). -/
def weightItems (h : Hoist) (s : State) : List Item :=
  let c := s.channels.get h
  [beBytes 1 (conditionNum h s), flagItem s.tables.calibrationLock,
   optItem 18 calBytes (s.tables.calibration.get h), optItem 3 (beInt 3) c.zero,
   optItem 4 (fun b : Block => beInt 3 b.count ++ flagItem b.loadValid) c.block,
   optItem 3 (beInt 3) c.mass, flagItem c.overRange, optItem 3 (beInt 3) c.filtered, beBytes 1 c.settle,
   flagItem (channelSettled h s), flagItem c.overload,
   optItem 1 (fun b : Block => flagItem b.moving) c.block,
   optItem 8 (fun x : HookHeight => beInt 2 x.height ++ beBytes 6 x.time) c.height]

/-- READ WEIGHT's rule (R59). -/
def readWeightRule (hoist page : Nat) (s : State) : Answer :=
  match hoistOf hoist with
  | none => refuse .outOfRange s
  | some h => readPage page (weightItems h s) s s

/-- READ WEIGHT (R59). -/
def execReadWeight (q : Req) (hoist page : Nat) (s : State) : Host.Outcome State Fault Refusal :=
  manage q 0x93#8 false (readWeightRule hoist page) s

end Sys2Proof.Machine
end

