-- ==== Sys2Proof/Machine/ZoneRequests.lean ====
section
/-! DEFINITION. LOAD ZONE MAP, SET DROSS CEILING, SET ZONE SERVICE and READ ZONES (R102 to R104, R109). -/

namespace Sys2Proof.Machine

/-- The zone record that a request gives; none where its in-service item is no defined value. -/
def zoneRecOf (x : ZoneArgs) : Option ZoneRec :=
  match boolOf x.inService with
  | some on => some { inService := on, floor := x.floor, ceiling := x.ceiling }
  | none => none

/-- The zone map that LOAD ZONE MAP gives, if every item is in range (R101, R102). -/
def zoneMapOf (x : ZoneMapArgs) : Option ZoneMap :=
  match zoneRecOf x.z1, zoneRecOf x.z2, zoneRecOf x.z3, zoneRecOf x.z4 with
  | some r1, some r2, some r3, some r4 =>
    let m : ZoneMap :=
      { zones := ⟨r1, r2, r3, r4⟩, rim := x.rim, margin := x.margin, clearance := x.clearance,
        emptyLevel := x.emptyLevel, massPerMm := x.massPerMm, tilt := x.tilt }
    if m.ok then some m else none
  | _, _, _, _ => none

/-- The zone map replaced. -/
def State.setZoneMap (s : State) (m : ZoneMap) : State := s.setTables { s.tables with zoneMap := m }

/-- LOAD ZONE MAP's rule, its checks in order (R102). -/
def loadZoneMapRule (x : ZoneMapArgs) (s : State) : Answer :=
  if s.contexts.h1.state ≠ .idle ∨ s.contexts.h2.state ≠ .idle then refuse .busy s
  else
    match zoneMapOf x with
    | some m => accept (s.setZoneMap m)
    | none => refuse .outOfRange s

/-- LOAD ZONE MAP (R102). -/
def execLoadZoneMap (q : Req) (x : ZoneMapArgs) (s : State) : Host.Outcome State Fault Refusal :=
  manage q 0xA8#8 true (loadZoneMapRule x) s

/-- One zone's record replaced in a map. -/
def ZoneMap.setZone (m : ZoneMap) (z : Zone) (r : ZoneRec) : ZoneMap := { m with zones := m.zones.set z r }

/-- SET DROSS CEILING's rule, its checks in order (R103). -/
def setDrossCeilingRule (zone : Nat) (ceiling : Int) (s : State) : Answer :=
  match zoneOf zone with
  | none => refuse .outOfRange s
  | some z =>
    let r := s.tables.zoneMap.zones.get z
    if s.owners.get z ≠ .none then refuse .inBath s
    else if ceiling < r.floor ∨ 10000 < ceiling then refuse .outOfRange s
    else accept (s.setZoneMap (s.tables.zoneMap.setZone z { r with ceiling }))

/-- SET DROSS CEILING (R103). -/
def execSetDrossCeiling (q : Req) (zone : Nat) (ceiling : Int) (s : State) : Host.Outcome State Fault Refusal :=
  manage q 0xA9#8 true (setDrossCeilingRule zone ceiling) s

/-- A dip context holds a tag whose zone set contains the zone (R104). -/
def zoneTagged (z : Zone) (s : State) : Bool := !(hoistsTagged (fun t => inSet t.firstZone t.lastZone z) s).isEmpty

/-- SET ZONE SERVICE's rule (R104). -/
def setZoneServiceRule (zone value : Nat) (s : State) : Answer :=
  match zoneOf zone, boolOf value with
  | some z, some on =>
    if !on && zoneTagged z s then refuse .inUse s
    else accept (s.setZoneMap (s.tables.zoneMap.setZone z { s.tables.zoneMap.zones.get z with inService := on }))
  | _, _ => refuse .outOfRange s

/-- SET ZONE SERVICE (R104). -/
def execSetZoneService (q : Req) (zone value : Nat) (s : State) : Host.Outcome State Fault Refusal :=
  manage q 0xAA#8 true (setZoneServiceRule zone value) s

/-- Number of a zone owner (R105, R182); a claimant has its owner's number (log 17). -/
def Owner.num : Owner → Nat
  | .none => 0
  | .hoist .h1 => 1
  | .hoist .h2 => 2
  | .pair => 3

/-- The items of a zone's record (R101). -/
def zoneItems (r : ZoneRec) : List Item := [flagItem r.inService, beInt 2 r.floor, beInt 2 r.ceiling]

/-- The items of the zone map and the approach height (R109), the latter in two bytes (log 32). -/
def zoneMapItems (m : ZoneMap) : List Item :=
  zoneItems m.zones.z1 ++ zoneItems m.zones.z2 ++ zoneItems m.zones.z3 ++ zoneItems m.zones.z4
    ++ [beBytes 2 m.rim, beBytes 2 m.margin, beBytes 2 m.clearance, beInt 2 m.emptyLevel, beBytes 2 m.massPerMm,
        beBytes 2 m.tilt, beBytes 2 (m.rim + m.margin)]

/-- The items of READ ZONES (R109). -/
def arbiterItems (s : State) : List Item :=
  [beBytes 1 s.owners.z1.num, beBytes 1 s.owners.z2.num, beBytes 1 s.owners.z3.num, beBytes 1 s.owners.z4.num,
   optItem 3 (fun w : WaitingClaim => beBytes 1 w.claimant.num ++ beBytes 1 w.first ++ beBytes 1 w.last) s.waiting]
    ++ zoneMapItems s.tables.zoneMap

/-- READ ZONES's rule (R109). -/
def readZonesRule (page : Nat) (s : State) : Answer := readPage page (arbiterItems s) s s

/-- READ ZONES (R109). -/
def execReadZones (q : Req) (page : Nat) (s : State) : Host.Outcome State Fault Refusal :=
  manage q 0xAB#8 false (readZonesRule page) s

end Sys2Proof.Machine
end

