-- ==== Sys2Proof/Machine/Store.lean ====
section
/-! DEFINITION. The stored image: the bytes of its content, the check over them, the image that a save writes, and the
test of start-up (R171, R172, R175). DESIGN CHOICE (log 37): the spec gives the check and what it covers, and no layout of
the content; the model's is the order of R171's table and the widths of R182. -/

namespace Sys2Proof.Machine

/-- The settings of a port in the image (R2, R15). -/
def portContent (x : PortSettings) : List Byte :=
  beBytes 1 x.window.base ++ beBytes 1 x.window.limit ++ beBytes 1 x.replyTimeout ++ beBytes 2 x.recoveryTime
    ++ flagItem x.strictStop

/-- A trap entry in the image, without its hit count (R23). -/
def trapContent (e : TrapEntry) : List Byte :=
  flagItem e.enabled ++ [e.destValue, e.destMask, e.codeValue, e.codeMask, e.firstValue, e.firstMask]
    ++ beBytes 1 e.condition.num ++ beBytes 1 e.action.num

/-- A jig in the image (R64). -/
def jigContent (j : Jig) : List Byte :=
  beBytes 2 j.id ++ beBytes 3 j.tare ++ beBytes 2 j.allowance ++ beBytes 2 j.dips ++ beBytes 4 j.zinc
    ++ flagItem (j.status == .inService)

/-- The zone map in the image (R101). -/
def zoneMapContent (m : ZoneMap) : List Byte :=
  (zoneItems m.zones.z1 ++ zoneItems m.zones.z2 ++ zoneItems m.zones.z3 ++ zoneItems m.zones.z4).flatten
    ++ beBytes 2 m.rim ++ beBytes 2 m.margin ++ beBytes 2 m.clearance ++ beInt 2 m.emptyLevel ++ beBytes 2 m.massPerMm
    ++ beBytes 2 m.tilt

/-- The bath settings in the image (R118). -/
def bathContent (x : BathSettings) : List Byte :=
  stationItem x.station ++ beBytes 2 x.low ++ beBytes 2 x.high ++ beBytes 2 x.hysteresis ++ beBytes 1 x.staleTime
    ++ beBytes 1 x.pollInterval ++ beBytes 4 x.reconcile

/-- A job account in the image (R131). -/
def jobContent (j : Job) : List Byte :=
  beBytes 3 j.number ++ beBytes 2 j.rMin ++ beBytes 2 j.rMax ++ beBytes 1 j.holdCount ++ beBytes 1 j.status.num
    ++ beBytes 2 j.dips ++ beBytes 4 j.steel ++ beBytes 4 j.pickup ++ beBytes 2 j.underCount ++ beBytes 2 j.overCount
    ++ beBytes 2 j.unweighed

/-- The kettle balance in the image (R138). -/
def balanceContent (b : Balance) : List Byte :=
  beBytes 4 b.k ++ beBytes 4 b.base ++ beBytes 8 b.additions ++ beBytes 8 b.removals ++ beBytes 8 b.pickups
    ++ beBytes 8 b.shortfall ++ beBytes 4 b.unweighed

/-- A table of varying length in the image: a count byte, then its entries. -/
def listContent {α : Type} (enc : α → List Byte) (xs : List α) : List Byte := beBytes 1 xs.length ++ xs.flatMap enc

/-- The image's whole content (R171): every stored table in full, in the order of that rule's table (log 37). -/
def imageContent (t : Tables) : List Byte :=
  beBytes 1 t.ownAddress ++ portContent t.ports.a ++ portContent t.ports.b ++ portContent t.ports.k
    ++ t.traps.toList.flatMap trapContent
    ++ hoistSettingsItem t.hoists.h1 ++ hoistSettingsItem t.hoists.h2
    ++ optItem 18 calBytes t.calibration.h1 ++ optItem 18 calBytes t.calibration.h2 ++ flagItem t.calibrationLock
    ++ t.profiles.toList.flatMap (optItem 22 (fun p => (profileItems p).flatten))
    ++ listContent jigContent t.jigs ++ zoneMapContent t.zoneMap ++ bathContent t.bath
    ++ listContent jobContent t.jobs ++ balanceContent t.balance
    ++ Group.all.map (fun g => groupByte (t.groups.get g))

/-- The CRC-16 over the image's whole content, with the polynomial 0x1021 and the initial value 0xFFFF (R172). DESIGN
CHOICE (log 37): not reflected and not inverted at the end, which R1 says of a frame's check and R172 does not say of the
image's. -/
def imageCheck (t : Tables) : BitVec 16 := crc16 (imageContent t)

/-- The image as a save leaves it: the snapshot and, written at its end, the check over it (R172, R175). -/
def writtenImage (snapshot : Tables) : StoredImage := { content := snapshot, check := imageCheck snapshot }

/-- The image is good: the check computed over its content equals the check stored, and its tables lie in their ranges
and constraints (R172). -/
def StoredImage.good (x : StoredImage) : Bool := imageCheck x.content == x.check && x.content.ok

/-- The tables of a good image; none of a bad one, and of one that a save has begun to overwrite or that was never
written (R172, R173). -/
def goodImage (image : Option StoredImage) : Option Tables :=
  match image with
  | some x => if x.good then some x.content else none
  | none => none

end Sys2Proof.Machine
end

