-- ==== Sys2Proof/Machine/DeviceRequests.lean ====
section
/-! DEFINITION. READ STATUS, SET ADDRESS, SAVE TABLES, the completion of a save, and DEVICE RESET (R168, R169, R173,
R175 to R178). -/

namespace Sys2Proof.Machine

/-- Number of a restart cause (R168, R182). -/
def restartCauseNum : RestartCause → Nat
  | .powerOn => 0
  | .resetLine => 1

/-- Number of a store state (R168, R182). -/
def StoreState.num : StoreState → Nat
  | .good => 0
  | .defaults => 1

/-- The items of READ STATUS (R168). DESIGN CHOICE (log 33): the byte that says whether a save is in flight is itself the
presence byte of the milliseconds left. DESIGN CHOICE (log 43): the service line asserted is sent as 1. -/
def statusItems (s : State) : List Item :=
  [beBytes 6 s.now, beBytes 1 (restartCauseNum s.restartCause), flagItem s.serviceAsserted, beBytes 1 s.storeState.num,
   flagItem s.tables.calibrationLock, flagItem s.upstreamDamaged, beBytes 1 s.tables.ownAddress,
   beBytes 1 s.ports.a.state.num ++ beBytes 1 s.ports.b.state.num ++ beBytes 1 s.ports.k.state.num,
   holdItem s.bath.hold, beBytes 1 s.contexts.h1.state.num ++ beBytes 1 s.contexts.h2.state.num,
   timerItem s.now (s.save.map Save.deadline)]

/-- READ STATUS's rule: UPSTREAM DAMAGED is cleared after the data has been taken (R168). -/
def readStatusRule (page : Nat) (s : State) : Answer :=
  readPage page (statusItems s) s { s with upstreamDamaged := false }

/-- READ STATUS (R168). -/
def execReadStatus (q : Req) (page : Nat) (s : State) : Host.Outcome State Fault Refusal :=
  manage q 0x80#8 false (readStatusRule page) s

/-- SET ADDRESS's rule (R169): the reply carries the old address, since `manage` takes it at the arrival. -/
def setAddressRule (addr : Nat) (s : State) : Answer :=
  let t := s.tables
  if addressOk addr && !Window.holds t.ports.a.window addr && !Window.holds t.ports.b.window addr
      && !Window.holds t.ports.k.window addr then
    accept (s.setTables { t with ownAddress := addr })
  else refuse .outOfRange s

/-- SET ADDRESS (R169). -/
def execSetAddress (q : Req) (addr : Nat) (s : State) : Host.Outcome State Fault Refusal :=
  manage q 0x81#8 true (setAddressRule addr) s

/-- SAVE TABLES (R173). -/
def execSaveTables (q : Req) (s : State) : Host.Outcome State Fault Refusal :=
  manage q 0x82#8 true (fun s => accept (startSave s)) s

/-- The completion of the save in flight (R175): the image holds the snapshot and its check, the store is GOOD, SAVE DONE
is set. -/
def completeSave (s : State) : State :=
  match s.save with
  | some x => setNotice .saveDone { s with image := some (writtenImage x.snapshot), save := none, storeState := .good }
  | none => s

/-- SAVE COMPLETION (R175). It may come at any instant while a save is in flight (log 8). -/
def execSaveCompletion (s : State) : Host.Outcome State Fault Refusal := .next (completeSave s.begin)

/-! ## Start-up -/

/-- The tables in working memory after start-up: the image's or the defaults, the lock cleared under the service line
(R47, R177). -/
def startTables (image : Option StoredImage) (service : Bool) : Tables :=
  let t := (goodImage image).getD .initial
  { t with calibrationLock := t.calibrationLock && !service }

/-- The motion record of a hoist after device reset (R38, R43). -/
def startMotion (x : HoistSettings) : HoistMotion := .initial x.capMax

/-- The weighing channel after device reset, its zero the record's (R60). -/
def startChannel (r : Option CalRecord) : Channel := .initial (r.map CalRecord.zero)

/-- Every block's values after start-up, before the first poll (R177). The image stays as it is. The queue is the
sender's, not the part's, and is kept. -/
def startState (image : Option StoredImage) (cause : RestartCause) (service : Bool) (waiting : List Instr) : State :=
  let t := startTables image service
  let good := (goodImage image).isSome
  { State.reset with
    tables := t
    image
    storeState := if good then .good else .defaults
    restartCause := cause
    serviceAsserted := service
    motion := ⟨startMotion t.hoists.h1, startMotion t.hoists.h2⟩
    channels := ⟨startChannel t.calibration.h1, startChannel t.calibration.h2⟩
    notices := { NoticeFlags.clear with restarted := true, storedTableError := !good }
    pending := waiting }

/-- DEVICE RESET (R177): a save in flight has left the image bad (R176; the image is none from the save's acceptance).
The poll due at reset is sent at once when the bath station has an address (R130). -/
def execDeviceReset (cause : RestartCause) (service : Bool) (s : State) : Host.Outcome State Fault Refusal :=
  .next (pollDue (startState s.image cause service s.pending))

end Sys2Proof.Machine
end

