-- ==== Sys2Proof/Machine/Upstream.lean ====
section
/-! DEFINITION. Frames on port U (R1, R4): damaged, reply, management request, broadcast, or bound for a port; and a
request to the own address whose form is not admitted (R167). -/

namespace Sys2Proof.Machine

/-- The owning rule of a management command that a frame has spelled (R164). The last arm is a command that no
management request spells (`decodeManagement` gives none of them), and does nothing. -/
def runManagement (i : Instr) (s : State) : Host.Outcome State Fault Refusal :=
  match i with
  | .readStatus q page => execReadStatus q page s
  | .setAddress q addr => execSetAddress q addr s
  | .saveTables q => execSaveTables q s
  | .loadWindows q wa wb wk => execLoadWindows q wa wb wk s
  | .readPortStatus q port page => execReadPortStatus q port page s
  | .setPortTiming q port reply recovery strict => execSetPortTiming q port reply recovery strict s
  | .restartSegment q port => execRestartSegment q port s
  | .loadTrap q entry x => execLoadTrap q entry x s
  | .readTrap q entry page => execReadTrap q entry page s
  | .loadHoistSettings q hoist x => execLoadHoistSettings q hoist x s
  | .setOperatorCap q hoist cap => execSetOperatorCap q hoist cap s
  | .readMotion q page => execReadMotion q page s
  | .loadCalibration q hoist x => execLoadCalibration q hoist x s
  | .lockCalibration q => execLockCalibration q s
  | .rezeroHook q hoist => execRezeroHook q hoist s
  | .readWeight q hoist page => execReadWeight q hoist page s
  | .loadProfile q number x => execLoadProfile q number x s
  | .removeProfile q number => execRemoveProfile q number s
  | .readProfile q number page => execReadProfile q number page s
  | .loadJig q jig tare allowance => execLoadJig q jig tare allowance s
  | .withdrawJig q jig => execWithdrawJig q jig s
  | .returnJig q jig => execReturnJig q jig s
  | .removeJig q jig => execRemoveJig q jig s
  | .readJig q jig page => execReadJig q jig page s
  | .tagLoad q x => execTagLoad q x s
  | .cancelLoad q hoist => execCancelLoad q hoist s
  | .setMaintenancePermit q hoist value => execSetMaintenancePermit q hoist value s
  | .weighJig q hoist jig => execWeighJig q hoist jig s
  | .readContext q hoist page => execReadContext q hoist page s
  | .loadZoneMap q x => execLoadZoneMap q x s
  | .setDrossCeiling q zone ceiling => execSetDrossCeiling q zone ceiling s
  | .setZoneService q zone value => execSetZoneService q zone value s
  | .readZones q page => execReadZones q page s
  | .loadBathSettings q x => execLoadBathSettings q x s
  | .readBath q page => execReadBath q page s
  | .openJob q job rMin rMax hold => execOpenJob q job rMin rMax hold s
  | .setJobBand q job rMin rMax hold => execSetJobBand q job rMin rMax hold s
  | .resumeJob q job => execResumeJob q job s
  | .closeJob q job => execCloseJob q job s
  | .releaseJob q job => execReleaseJob q job s
  | .readJob q job page => execReadJob q job page s
  | .zincAdded q mass => execZincAdded q mass s
  | .drossRemoved q mass => execDrossRemoved q mass s
  | .ashRemoved q mass => execAshRemoved q mass s
  | .setBalance q value => execSetBalance q value s
  | .setBalanceToLevel q => execSetBalanceToLevel q s
  | .readBalance q page => execReadBalance q page s
  | .peekRecord q => execPeekRecord q s
  | .takeRecord q => execTakeRecord q s
  | .readQueue q page => execReadQueue q page s
  | .readNotices q => execReadNotices q s
  | .clearNotices q kinds => execClearNotices q kinds s
  | .setNoticeLevels q group level enable => execSetNoticeLevels q group level enable s
  | .upstreamFrame .. | .downstreamFrame .. | .replyTimerExpiry .. | .recoveryTimerExpiry ..
  | .isolationStopTimerExpiry .. | .restartHoldExpiry .. | .commandTimerExpiry .. | .drainDwellExpiry ..
  | .weighTimerExpiry .. | .jigWeighTimerExpiry .. | .pollTimerExpiry | .staleExpiry .. | .saveCompletion
  | .deviceReset .. | .unassignedManagementCode .. => .next s.begin

/-- BAD REQUEST: the code or the payload length fails the form check (R165, R167). -/
def badRequest (q : Req) (code : Byte) (s : State) : Host.Outcome State Fault Refusal :=
  .next (reply q (ownByte s) code .badRequest [] s.begin)

/-- A request to the own address (R164, R167): its form decides whether it reaches its owning rule. -/
def managementRequest (q : Req) (code : Byte) (payload : List Byte) (s : State) :
    Host.Outcome State Fault Refusal :=
  match decodeManagement q code payload with
  | some i => runManagement i s
  | none => badRequest q code s

/-- UNASSIGNED MANAGEMENT CODE (R167). A code and payload that are admitted after all go to their owning rule
(log 26). -/
def execUnassignedManagementCode (q : Req) (code : Byte) (payload : List Byte) (s : State) :
    Host.Outcome State Fault Refusal :=
  managementRequest q code payload s

/-- An undamaged frame on port U, by kind and destination (R4, log 26). -/
def upstream (f : Frame) (s : State) : Host.Outcome State Fault Refusal :=
  if f.reply then .next s.begin
  else if f.dest.toNat = s.tables.ownAddress then managementRequest ⟨f.src, f.seq⟩ f.code f.payload s
  else if f.dest = 0 then .next (broadcast f s.begin)
  else .next (routeRequest f s.begin)

/-- UPSTREAM FRAME: a damaged frame is discarded and sets UPSTREAM DAMAGED (R1, R4). -/
def execUpstreamFrame (bytes : List Byte) (s : State) : Host.Outcome State Fault Refusal :=
  match parseFrame bytes with
  | some f => upstream f s
  | none => .next { s.begin with upstreamDamaged := true }

end Sys2Proof.Machine
end

