-- ==== Sys2Proof/Machine/Dispatch.lean ====
section
/-! DEFINITION. One arm per command of spec/opcode_table.json: the direct call of its meaning. -/

namespace Sys2Proof.Machine

/-- The effect of a command on everything but the queue. -/
def exec (i : Instr) (s : State) : Host.Outcome State Fault Refusal :=
  match i with
  | .upstreamFrame bytes => Sys2Proof.Machine.execUpstreamFrame bytes s
  | .downstreamFrame p bytes => Sys2Proof.Machine.execDownstreamFrame p bytes s
  | .replyTimerExpiry p => Sys2Proof.Machine.execReplyTimerExpiry p s
  | .recoveryTimerExpiry p => Sys2Proof.Machine.execRecoveryTimerExpiry p s
  | .isolationStopTimerExpiry h => Sys2Proof.Machine.execIsolationStopTimerExpiry h s
  | .restartHoldExpiry p => Sys2Proof.Machine.execRestartHoldExpiry p s
  | .commandTimerExpiry h => Sys2Proof.Machine.execCommandTimerExpiry h s
  | .drainDwellExpiry h => Sys2Proof.Machine.execDrainDwellExpiry h s
  | .weighTimerExpiry h => Sys2Proof.Machine.execWeighTimerExpiry h s
  | .jigWeighTimerExpiry h => Sys2Proof.Machine.execJigWeighTimerExpiry h s
  | .pollTimerExpiry => Sys2Proof.Machine.execPollTimerExpiry s
  | .staleExpiry fig => Sys2Proof.Machine.execStaleExpiry fig s
  | .saveCompletion => Sys2Proof.Machine.execSaveCompletion s
  | .deviceReset cause service => Sys2Proof.Machine.execDeviceReset cause service s
  | .unassignedManagementCode q code payload => Sys2Proof.Machine.execUnassignedManagementCode q code payload s
  | .readStatus q page => Sys2Proof.Machine.execReadStatus q page s
  | .setAddress q addr => Sys2Proof.Machine.execSetAddress q addr s
  | .saveTables q => Sys2Proof.Machine.execSaveTables q s
  | .loadWindows q wa wb wk => Sys2Proof.Machine.execLoadWindows q wa wb wk s
  | .readPortStatus q port page => Sys2Proof.Machine.execReadPortStatus q port page s
  | .setPortTiming q port reply recovery strict => Sys2Proof.Machine.execSetPortTiming q port reply recovery strict s
  | .restartSegment q port => Sys2Proof.Machine.execRestartSegment q port s
  | .loadTrap q entry x => Sys2Proof.Machine.execLoadTrap q entry x s
  | .readTrap q entry page => Sys2Proof.Machine.execReadTrap q entry page s
  | .loadHoistSettings q hoist x => Sys2Proof.Machine.execLoadHoistSettings q hoist x s
  | .setOperatorCap q hoist cap => Sys2Proof.Machine.execSetOperatorCap q hoist cap s
  | .readMotion q page => Sys2Proof.Machine.execReadMotion q page s
  | .loadCalibration q hoist x => Sys2Proof.Machine.execLoadCalibration q hoist x s
  | .lockCalibration q => Sys2Proof.Machine.execLockCalibration q s
  | .rezeroHook q hoist => Sys2Proof.Machine.execRezeroHook q hoist s
  | .readWeight q hoist page => Sys2Proof.Machine.execReadWeight q hoist page s
  | .loadProfile q number x => Sys2Proof.Machine.execLoadProfile q number x s
  | .removeProfile q number => Sys2Proof.Machine.execRemoveProfile q number s
  | .readProfile q number page => Sys2Proof.Machine.execReadProfile q number page s
  | .loadJig q jig tare allowance => Sys2Proof.Machine.execLoadJig q jig tare allowance s
  | .withdrawJig q jig => Sys2Proof.Machine.execWithdrawJig q jig s
  | .returnJig q jig => Sys2Proof.Machine.execReturnJig q jig s
  | .removeJig q jig => Sys2Proof.Machine.execRemoveJig q jig s
  | .readJig q jig page => Sys2Proof.Machine.execReadJig q jig page s
  | .tagLoad q x => Sys2Proof.Machine.execTagLoad q x s
  | .cancelLoad q hoist => Sys2Proof.Machine.execCancelLoad q hoist s
  | .setMaintenancePermit q hoist value => Sys2Proof.Machine.execSetMaintenancePermit q hoist value s
  | .weighJig q hoist jig => Sys2Proof.Machine.execWeighJig q hoist jig s
  | .readContext q hoist page => Sys2Proof.Machine.execReadContext q hoist page s
  | .loadZoneMap q x => Sys2Proof.Machine.execLoadZoneMap q x s
  | .setDrossCeiling q zone ceiling => Sys2Proof.Machine.execSetDrossCeiling q zone ceiling s
  | .setZoneService q zone value => Sys2Proof.Machine.execSetZoneService q zone value s
  | .readZones q page => Sys2Proof.Machine.execReadZones q page s
  | .loadBathSettings q x => Sys2Proof.Machine.execLoadBathSettings q x s
  | .readBath q page => Sys2Proof.Machine.execReadBath q page s
  | .openJob q job rMin rMax hold => Sys2Proof.Machine.execOpenJob q job rMin rMax hold s
  | .setJobBand q job rMin rMax hold => Sys2Proof.Machine.execSetJobBand q job rMin rMax hold s
  | .resumeJob q job => Sys2Proof.Machine.execResumeJob q job s
  | .closeJob q job => Sys2Proof.Machine.execCloseJob q job s
  | .releaseJob q job => Sys2Proof.Machine.execReleaseJob q job s
  | .readJob q job page => Sys2Proof.Machine.execReadJob q job page s
  | .zincAdded q mass => Sys2Proof.Machine.execZincAdded q mass s
  | .drossRemoved q mass => Sys2Proof.Machine.execDrossRemoved q mass s
  | .ashRemoved q mass => Sys2Proof.Machine.execAshRemoved q mass s
  | .setBalance q value => Sys2Proof.Machine.execSetBalance q value s
  | .setBalanceToLevel q => Sys2Proof.Machine.execSetBalanceToLevel q s
  | .readBalance q page => Sys2Proof.Machine.execReadBalance q page s
  | .peekRecord q => Sys2Proof.Machine.execPeekRecord q s
  | .takeRecord q => Sys2Proof.Machine.execTakeRecord q s
  | .readQueue q page => Sys2Proof.Machine.execReadQueue q page s
  | .readNotices q => Sys2Proof.Machine.execReadNotices q s
  | .clearNotices q kinds => Sys2Proof.Machine.execClearNotices q kinds s
  | .setNoticeLevels q group level enable => Sys2Proof.Machine.execSetNoticeLevels q group level enable s

end Sys2Proof.Machine
end

