-- ==== Sys2Proof/WellFormed.lean ====
section
/-! DEFINITION. Which terms of `Instr` a frame on the wire can spell: every field within the width R182 gives it, and
the two constraints of form that R167 puts on a request (a list of notice kinds of at most 19; a code and payload that
are unassigned). A field outside its RANGE is well formed: its owning rule refuses it. -/

namespace Sys2Proof

/-- An unsigned field of `w` bytes. -/
def fitsNat (w n : Nat) : Bool := n < 256 ^ w

/-- A signed field of `w` bytes. -/
def fitsInt (w : Nat) (x : Int) : Bool := -(128 * 256 ^ (w - 1) : Int) ≤ x && x < (128 * 256 ^ (w - 1) : Int)

/-- A calibration record of the wire's widths. -/
def CalRecord.fits (x : CalRecord) : Bool :=
  fitsInt 3 x.zero && fitsNat 2 x.gain && fitsNat 2 x.trackRange && fitsNat 2 x.zeroBand && fitsNat 1 x.shift
    && fitsNat 2 x.settleBand && fitsNat 1 x.settleCount && fitsNat 3 x.overThreshold && fitsNat 2 x.overHyst

/-- A profile of the wire's widths. -/
def Profile.fits (x : Profile) : Bool :=
  fitsNat 2 x.approachSpeed && fitsNat 2 x.entrySpeed && fitsNat 2 x.withdrawSpeed && fitsNat 2 x.drainSpeed
    && fitsNat 2 x.coverDepth && fitsNat 2 x.minDwell && fitsNat 2 x.drainDwell && fitsNat 2 x.weighTimeout
    && fitsNat 2 x.buoyancy && fitsNat 2 x.floatMargin && fitsNat 2 x.groundFraction

/-- A tag of the wire's widths. -/
def TagArgs.fits (x : TagArgs) : Bool :=
  fitsNat 1 x.hoist && fitsNat 3 x.job && fitsNat 2 x.jig && fitsNat 1 x.profile && fitsNat 2 x.loadDepth
    && fitsNat 2 x.workHeight && fitsNat 1 x.firstZone && fitsNat 1 x.lastZone && fitsNat 1 x.token

/-- A zone record of the wire's widths. -/
def ZoneArgs.fits (x : ZoneArgs) : Bool := fitsNat 1 x.inService && fitsInt 2 x.floor && fitsInt 2 x.ceiling

/-- A window of the wire's widths. -/
def Window.fits (x : Window) : Bool := fitsNat 1 x.base && fitsNat 1 x.limit

/-- Whether a frame on the wire can spell the command. -/
def Instr.wellFormed : Instr → Bool
  | .upstreamFrame _ => true
  | .downstreamFrame _ _ => true
  | .replyTimerExpiry _ => true
  | .recoveryTimerExpiry _ => true
  | .isolationStopTimerExpiry _ => true
  | .restartHoldExpiry _ => true
  | .commandTimerExpiry _ => true
  | .drainDwellExpiry _ => true
  | .weighTimerExpiry _ => true
  | .jigWeighTimerExpiry _ => true
  | .pollTimerExpiry => true
  | .staleExpiry _ => true
  | .saveCompletion => true
  | .deviceReset _ _ => true
  | .unassignedManagementCode _ code p => p.length ≤ Config.maxPayload && !admits code p.length
  | .readStatus _ g => fitsNat 1 g
  | .setAddress _ a => fitsNat 1 a
  | .saveTables _ => true
  | .loadWindows _ wa wb wk => wa.fits && wb.fits && wk.fits
  | .readPortStatus _ n g => fitsNat 1 n && fitsNat 1 g
  | .setPortTiming _ n t r x => fitsNat 1 n && fitsNat 1 t && fitsNat 2 r && fitsNat 1 x
  | .restartSegment _ n => fitsNat 1 n
  | .loadTrap _ n x => fitsNat 1 n && fitsNat 1 x.enabled && fitsNat 1 x.condition && fitsNat 1 x.action
  | .readTrap _ n g => fitsNat 1 n && fitsNat 1 g
  | .loadHoistSettings _ n x =>
    fitsNat 1 n && fitsNat 1 x.station && fitsNat 2 x.ratedUp && fitsNat 2 x.ratedDown && fitsNat 2 x.ratedTravel
      && fitsNat 2 x.creep && fitsInt 2 x.offset && fitsNat 2 x.commandTimeout
  | .setOperatorCap _ n c => fitsNat 1 n && fitsNat 2 c
  | .readMotion _ g => fitsNat 1 g
  | .loadCalibration _ n x => fitsNat 1 n && x.fits
  | .lockCalibration _ => true
  | .rezeroHook _ n => fitsNat 1 n
  | .readWeight _ n g => fitsNat 1 n && fitsNat 1 g
  | .loadProfile _ n x => fitsNat 1 n && x.fits
  | .removeProfile _ n => fitsNat 1 n
  | .readProfile _ n g => fitsNat 1 n && fitsNat 1 g
  | .loadJig _ j t a => fitsNat 2 j && fitsNat 3 t && fitsNat 2 a
  | .withdrawJig _ j => fitsNat 2 j
  | .returnJig _ j => fitsNat 2 j
  | .removeJig _ j => fitsNat 2 j
  | .readJig _ j g => fitsNat 2 j && fitsNat 1 g
  | .tagLoad _ x => x.fits
  | .cancelLoad _ n => fitsNat 1 n
  | .setMaintenancePermit _ n v => fitsNat 1 n && fitsNat 1 v
  | .weighJig _ n j => fitsNat 1 n && fitsNat 2 j
  | .readContext _ n g => fitsNat 1 n && fitsNat 1 g
  | .loadZoneMap _ x =>
    x.z1.fits && x.z2.fits && x.z3.fits && x.z4.fits && fitsNat 2 x.rim && fitsNat 2 x.margin
      && fitsNat 2 x.clearance && fitsInt 2 x.emptyLevel && fitsNat 2 x.massPerMm && fitsNat 2 x.tilt
  | .setDrossCeiling _ z c => fitsNat 1 z && fitsInt 2 c
  | .setZoneService _ z v => fitsNat 1 z && fitsNat 1 v
  | .readZones _ g => fitsNat 1 g
  | .loadBathSettings _ x =>
    fitsNat 1 x.station && fitsNat 2 x.low && fitsNat 2 x.high && fitsNat 2 x.hysteresis && fitsNat 1 x.staleTime
      && fitsNat 1 x.pollInterval && fitsNat 4 x.reconcile
  | .readBath _ g => fitsNat 1 g
  | .openJob _ j lo hi n => fitsNat 3 j && fitsNat 2 lo && fitsNat 2 hi && fitsNat 1 n
  | .setJobBand _ j lo hi n => fitsNat 3 j && fitsNat 2 lo && fitsNat 2 hi && fitsNat 1 n
  | .resumeJob _ j => fitsNat 3 j
  | .closeJob _ j => fitsNat 3 j
  | .releaseJob _ j => fitsNat 3 j
  | .readJob _ j g => fitsNat 3 j && fitsNat 1 g
  | .zincAdded _ m => fitsNat 4 m
  | .drossRemoved _ m => fitsNat 4 m
  | .ashRemoved _ m => fitsNat 4 m
  | .setBalance _ m => fitsNat 4 m
  | .setBalanceToLevel _ => true
  | .readBalance _ g => fitsNat 1 g
  | .peekRecord _ => true
  | .takeRecord _ => true
  | .readQueue _ g => fitsNat 1 g
  | .readNotices _ => true
  | .clearNotices _ ks => ks.length ≤ 19 && ks.all (fitsNat 1)
  | .setNoticeLevels _ n l e => fitsNat 1 n && fitsNat 1 l && fitsNat 1 e

end Sys2Proof
end

