-- ==== Sys2Proof/Safety.lean ====
section
/-! DEFINITION. What the spec promises of the whole KD-40 at every moment, in the terms the claims use: the laws of the
accounts (R138, R150), of the weighing channels (R52, R56), of the dips, their tags, places and zones (R75, R104, R105,
R111, R149), of the ports (1.6), and the shape of an answered management request (R165). -/

namespace Sys2Proof.Machine

/-! ## Answers -/

/-- The one reply of a management request (R165): `s` is the state it arrived in, `s'` the state after its effect. -/
def replyTo (q : Req) (code : Byte) (st : Status) (data : List Byte) (s s' : State) : Frame :=
  { dest := q.source, src := BitVec.ofNat 8 s.tables.ownAddress, reply := true, origin := true, limited := false,
    attention := attention s', seq := q.seq, code, payload := statusByte st :: data }

/-- The state `s'` after a request's effect, with the one reply of the request sent (R165). -/
def answered (q : Req) (code : Byte) (st : Status) (data : List Byte) (s s' : State) : State :=
  { s' with sent := [.up (replyTo q code st data s s')] }

/-- The status of the first check that fails, in the order of a rule's list; none when all pass. A check is a failing
condition and the status it gives. -/
def firstFailure : List (Bool × Status) → Option Status
  | [] => none
  | (fails, st) :: rest => if fails then some st else firstFailure rest

/-- A request answered by the first failing check with nothing changed (R166), or DONE with its effect `s'`. -/
def checked (q : Req) (code : Byte) (checks : List (Bool × Status)) (data : List Byte) (s s' : State) : State :=
  match firstFailure checks with
  | some st => answered q code st [] s s
  | none => answered q code .done data s s'

/-- A reading answered (R183): the page byte, the page count and the items of the page, or OUT OF RANGE with nothing
changed where there is no such page. `s'` is the state after a DONE. -/
def paged (q : Req) (code : Byte) (page : Nat) (items : List Item) (s s' : State) : State :=
  match (pagesOf items)[page]? with
  | some body =>
    answered q code .done (BitVec.ofNat 8 page :: BitVec.ofNat 8 (pagesOf items).length :: body) s s'
  | none => answered q code .outOfRange [] s s

/-- The frames of a list that went up on port U. -/
def upFrames : List Sent → List Frame
  | [] => []
  | .up f :: rest => f :: upFrames rest
  | .down _ _ :: rest => upFrames rest

/-- A frame that went up or down carries what R11, R20, R21 and R165 give every frame: up, a REPLY; down, a REQUEST with
attention value 0 and LIMITED clear. -/
def Sent.wellMade : Sent → Bool
  | .up f => f.reply
  | .down _ f => !f.reply && f.attention == 0 && !f.limited

/-- The local reply to a request (R11), with the attention value of the state it is sent in. -/
def localFrame (source dest seq code : Byte) (lc : LocalCode) (s : State) : Frame :=
  { dest := source, src := dest, reply := true, origin := true, limited := false, attention := attention s, seq, code,
    payload := [localByte lc] }

/-- The local reply that frees a slot, if the request in it was forwarded (R8, R10, R16, R18), with the attention value
of the state it is sent in. -/
def slotReply (slot : Option Slot) (lc : LocalCode) (s : State) : List Sent :=
  match slot with
  | some sl =>
    match sl.origin with
    | .forwarded source _ => [.up (localFrame source sl.dest sl.seq sl.code lc s)]
    | .generated => []
  | none => []

/-- A generated request's frame (R20). -/
def madeFrame (dest code : Byte) (payload : List Byte) (s : State) : Frame :=
  { dest, src := BitVec.ofNat 8 s.tables.ownAddress, reply := false, origin := true, limited := false, attention := 0,
    seq := s.seqCounter, code, payload }

/-- The slot of a port as a request leaves it (R6). -/
def filledSlot (p : Port) (origin : SlotOrigin) (dest seq code : Byte) (s : State) : Option Slot :=
  some { origin, dest, seq, code, deadline := s.now + (s.tables.ports.get p).replyTimeout }

/-- The state after a trap entry, by its place from 0, has decided a request: its hit count one higher, or still 65,535,
and TRAP HIT set (R26). -/
def hitOn (i : Nat) (s : State) : State :=
  { s with
    trapHits := s.trapHits.setIfInBounds i (min 65535 ((s.trapHits[i]?).getD 0 + 1))
    notices := { s.notices with trapHit := true } }

/-- `s1` is what the trap table makes of `s` for a request that it lets pass: no entry decides it, or a NOTE entry counts
it (R26). -/
def passesTraps (port : Option Port) (f : Frame) (s s1 : State) : Prop :=
  (trapMatch port f s = none ∧ s1 = s) ∨ ∃ i, trapMatch port f s = some (i, .note) ∧ s1 = hitOn i s

/-- The number of a port in a request (R170). -/
def portNum : Port → Nat
  | .a => 1
  | .b => 2
  | .k => 3

/-- A tag of either context satisfies `f`. -/
def anyTag (f : TagArgs → Bool) (s : State) : Bool := s.contexts.h1.tag.any f || s.contexts.h2.tag.any f

/-- A hoist's context names a jig in its tag or is weighing it in JIG_WEIGH (R64). -/
def hoistUsesJig (h : Hoist) (n : Nat) (s : State) : Bool :=
  (s.contexts.get h).tag.any (fun t => t.jig == n)
    || ((s.contexts.get h).state == .jigWeigh && (s.contexts.get h).jigWeigh.jig == n)

/-- A jig is in use (R64). -/
def jigInUse (n : Nat) (s : State) : Bool := hoistUsesJig .h1 n s || hoistUsesJig .h2 n s

/-- A timer that is running and has reached its deadline at a moment (R77). -/
def reachedBy (timer : Option Nat) (now : Nat) : Prop := ∃ d, timer = some d ∧ d ≤ now

/-- Both hoists take the transitions of hoist `h`'s dip when they are driven as one pair, else `h` alone does (R111). -/
def sharesDip (h x : Hoist) (s : State) : Bool := x == h || joint s

/-- Each context that takes the transitions of hoist `h`'s dip, changed by `f` (R111). -/
def changeDip (h : Hoist) (f : Context → Context) (s : State) : State :=
  { s with contexts :=
    ⟨if sharesDip h .h1 s then f s.contexts.h1 else s.contexts.h1,
     if sharesDip h .h2 s then f s.contexts.h2 else s.contexts.h2⟩ }

/-- The settle counts of the hoists that take the transitions of hoist `h`'s dip set to 0 (R88, R112). -/
def restartSettle (h : Hoist) (s : State) : State :=
  { s with channels :=
    ⟨if sharesDip h .h1 s then { s.channels.h1 with settle := 0 } else s.channels.h1,
     if sharesDip h .h2 s then { s.channels.h2 with settle := 0 } else s.channels.h2⟩ }

/-- A context back in IDLE: everything of the dip gone, the permit and the last jig weigh kept (R75, R91). -/
def Context.ended (c : Context) : Context := { Context.initial with permit := c.permit, jigWeigh := c.jigWeigh }

/-- A hoist's dip claims as the pair while both hoists are driven as one, else as the hoist itself (R105, R113). -/
def dipClaimant (h : Hoist) (s : State) : Owner := if joint s then .pair else .hoist h

/-- A hoist's dip gives up its claim: the claim of its contexts becomes none, and then every zone it owns (R89, R91). -/
def releaseDip (h : Hoist) (s : State) : State :=
  releaseZones (dipClaimant h s) (changeDip h (fun c => { c with claim := .none }) s)

/-- The contexts that a claimant stands for, changed by `f` (R106, R113). -/
def claimContexts (claimant : Owner) (f : Context → Context) (s : State) : PerHoist Context :=
  match claimant with
  | .none => s.contexts
  | .hoist h => s.contexts.set h (f (s.contexts.get h))
  | .pair => ⟨f s.contexts.h1, f s.contexts.h2⟩

/-- The record of a dip that closes without a wet weight, from its context `c` and its tag (R91, R150). -/
def dipRecord (c : Context) (tg : TagArgs) (hoist : RecordHoist) (outcome : DipOutcome) (s : State) : Record :=
  { seq := s.nextRecord, outcome, hoist, token := if tg.token = 0 then none else some tg.token, job := tg.job
    jig := tg.jig, profile := tg.profile, tTare := c.tTare.getD 0, tEntry := c.tEntry, tImmersion := c.tImmersion
    tWithdrawal := c.tWithdrawal, tDrain := c.tDrain, tClose := s.now, wDry := c.wDry.getD 0, sMass := c.sMass.getD 0
    bath := if c.beenInBath then some ⟨c.aExp.getD 0, c.aMin.getD 0, c.aMax.getD 0⟩ else none
    wet := none, ratio := none, flags := c.flags, negPickup := false, underBand := false, overBand := false }

/-- The stored tables after a close that reached the bath and has no wet weight: the job, the jig by its allowance and the
kettle's unweighed dips charged (R147, R148). -/
def unweighedTables (tg : TagArgs) (s : State) : Tables :=
  { s.tables with
    jobs := s.tables.jobs.map (fun j => if j.number = tg.job then { j with
      dips := min 65535 (j.dips + 1), unweighed := min 65535 (j.unweighed + 1) } else j)
    jigs := s.tables.jigs.map (fun j => if j.id = tg.jig then { j with
      tare := min 100000 (j.tare + allowanceOf tg.jig s), zinc := min 4294967295 (j.zinc + allowanceOf tg.jig s)
      dips := min 65535 (j.dips + 1) } else j)
    balance := { s.tables.balance with unweighed := min 4294967295 (s.tables.balance.unweighed + 1) } }

/-- An item of a reading that is absent or present: a presence byte, then the value, or zeros of its width (R183). -/
def optionalItem (width : Nat) (value : Option (List Byte)) : Item :=
  match value with
  | some v => 1 :: v
  | none => 0 :: List.replicate width 0

/-- The limit of a source in a hoist direction (R33). -/
def limitIn (d : HoistDir) (l : Limits) : Option Nat :=
  match d with
  | .up => l.up
  | .down => l.down
  | .stop => none

/-- The window of port `p` holds an address and no other window does (R4). -/
def onlyWindowOf (p : Port) (a : Nat) (s : State) : Prop :=
  ∀ x : Port, ((s.tables.ports.get x).window.base ≤ a ∧ a ≤ (s.tables.ports.get x).window.limit) ↔ x = p

/-! ## Both hoists -/

/-- A property of both hoists. -/
def onBoth (p : Hoist → Bool) : Bool := p .h1 && p .h2

/-! ## Weighing (R52, R56) -/

/-- Every weighing channel's filtered mass lies between −10,000 and 400,000 du (R52). -/
def massesInRange (s : State) : Bool :=
  onBoth (fun h => (s.channels.get h).filtered.all (fun f => decide (-10000 ≤ f ∧ f ≤ 400000)))

/-- Every hook zero lies within its calibrated zero, plus or minus its zero track range (R56). -/
def zerosInFence (s : State) : Bool :=
  onBoth (fun h =>
    match s.tables.calibration.get h, (s.channels.get h).zero with
    | some r, some z => decide (r.zero - r.trackRange ≤ z ∧ z ≤ r.zero + r.trackRange)
    | _, _ => true)

/-! ## Accounts (R138, R150) -/

/-- A record carries a pickup ratio only when its outcome is NORMAL and S > 0, and it lies in 0 to 999 (R150). -/
def Record.ratioOk (r : Record) : Bool :=
  match r.ratio with
  | some x => r.outcome == .normal && decide (0 < r.sMass) && decide (x ≤ 999)
  | none => true

/-- Every record held carries its ratio as R150 says. -/
def ratiosOk (s : State) : Bool := s.records.all Record.ratioOk

/-- The stored tables in working memory and those of a save in flight are each within their ranges and constraints (R172),
the law of the kettle balance (R138) among them, and an image that holds tables is good: in range too, with the check over
its content (R172, R175). -/
def storedOk (s : State) : Bool :=
  s.tables.ok && s.save.all (fun x => x.snapshot.ok) && s.image.all StoredImage.good

/-! ## Tags (R75, R104) -/

/-- The tag, if there is one, names a job that is OPEN or HELD, a jig that is IN SERVICE and a profile that is present
(R75). -/
def tagNamesTables (s : State) (c : Context) : Bool :=
  match c.tag with
  | some t =>
    (findJob t.job s).any (fun j => j.status != .closed) && (findJig t.jig s).any (fun j => j.status == .inService)
      && (findProfile t.profile s).isSome
  | none => true

/-- Every tag names what the tables hold (R75). -/
def tagsNameTables (s : State) : Bool := onBoth (fun h => tagNamesTables s (s.contexts.get h))

/-- A context holds a tag in every state but IDLE and JIG_WEIGH (chapter 5, the table of states). -/
def Context.tagMatchesState (c : Context) : Bool := c.tag.isSome == !(c.state == .idle || c.state == .jigWeigh)

/-- Every zone of the zone set of a tag is in service (R104). -/
def Context.zonesInService (m : ZoneMap) (c : Context) : Bool :=
  match c.tag with
  | some t => Zone.all.all (fun z => !inSet t.firstZone t.lastZone z || (m.zones.get z).inService)
  | none => true

/-- Tags stand in the states that hold one, and their zones are in service (R104). -/
def tagZonesOk (s : State) : Bool :=
  onBoth (fun h => (s.contexts.get h).tagMatchesState && (s.contexts.get h).zonesInService s.tables.zoneMap)

/-! ## Dips (R105, R111, R149) -/

/-- A context holds a reserved place from its tare capture to its close or cancel: in READY to WEIGHING (R75, R149). -/
def Context.reservedMatchesState (c : Context) : Bool := c.reserved == (c.state.inDip && c.state != .tagged)

/-- Two tags describe one load: job, jig, profile and zone set (R110, R111). -/
def sameLoadTags (a b : Option TagArgs) : Bool :=
  match a, b with
  | some x, some t => sameLoad x t
  | _, _ => false

/-- The pair link of a context against the other context (R110, R111, R116): PARTNER PENDING only in TAGGED, none
without a tag, and PAIRED before an abort only with a paired partner in the same state and with the same load. -/
def pairLinkOk (c other' : Context) : Bool :=
  match c.pair with
  | .none => true
  | .partnerPending => c.state == .tagged
  | .paired =>
    c.tag.isSome
      && (c.state == .abandoned
        || (other'.pair == .paired && other'.state == c.state && sameLoadTags c.tag other'.tag))

/-- Every context in LOWERING to DRAINING or in ABANDONED owns every zone of its tag's zone set, through its own or its
pair's claim (R105). -/
def ownsItsZones (h : Hoist) (s : State) : Bool :=
  let c := s.contexts.get h
  match c.tag with
  | some t =>
    !(c.state.overKettle || c.state == .abandoned)
      || Zone.all.all (fun z =>
        !inSet t.firstZone t.lastZone z || s.owners.get z == (if c.pair = .paired then .pair else .hoist h))
  | none => true

/-- A waiting context waits for the zone set of its tag. -/
def waitsFor (w : WaitingClaim) (pair : Bool) (c : Context) : Bool :=
  c.state == .waitingZone && (c.pair == .paired) == pair
    && c.tag.any (fun t => t.firstZone == w.first && t.lastZone == w.last)

/-- The waiting claim is that of a context, or of the contexts of a pair, in WAITING_ZONE (R105, R106). -/
def waitingOk (s : State) : Bool :=
  match s.waiting with
  | none => true
  | some w =>
    match w.claimant with
    | .none => false
    | .hoist h => waitsFor w false (s.contexts.get h)
    | .pair => waitsFor w true s.contexts.h1 && waitsFor w true s.contexts.h2

/-- Two contexts hold the figures of a dip alike: everything but the tag, the maintenance permit and the jig weigh, which
are each hoist's own (R111). -/
def Context.alike (c o : Context) : Bool := o == { c with tag := o.tag, permit := o.permit, jigWeigh := o.jigWeigh }

/-- A PARTNER PENDING context holds nothing of a dip but its tag and, once its channel has shown overload, the flag
OVERLOAD_SEEN (R76, R78, R110). -/
def Context.pendingOk (c : Context) : Bool :=
  c.pair != .partnerPending
    || c == { c.ended with
      state := .tagged, tag := c.tag, pair := .partnerPending
      flags := { DipFlags.clear with overloadSeen := c.flags.overloadSeen } }

/-- A pair driven as one holds the figures of its dip alike, and a context that waits for its partner holds none
(R110, R111). -/
def pairsAlike (s : State) : Bool :=
  (!joint s || s.contexts.h1.alike s.contexts.h2) && s.contexts.h1.pendingOk && s.contexts.h2.pendingOk

/-- The invariant of the dips: tags and places stand in the states that hold them, a pair is one until its abort, the
zones under a load are its own, the waiting claim is a waiting context's, and the records held with the places
reserved never exceed 48 (R75, R105, R111, R149). -/
def dipsOk (s : State) : Bool :=
  onBoth (fun h =>
      (s.contexts.get h).tagMatchesState && (s.contexts.get h).reservedMatchesState
        && pairLinkOk (s.contexts.get h) (s.contexts.get h.other) && ownsItsZones h s)
    && waitingOk s && s.records.length + reservedPlaces s ≤ 48

/-! ## Ports (1.6) -/

/-- Port K is never ISOLATED (1.6). -/
def portKNeverIsolated (s : State) : Bool := s.ports.k.state != .isolated

/-- The recovery timer of a port runs in FAULTED and in no other state (1.6). -/
def PortUnit.recoveryOk (u : PortUnit) : Bool := u.recovery.isSome == (u.state == .faulted)

/-- A port's recovery timer, restart hold and isolation stop timer run in the states of 1.6 that have them. -/
def PortUnit.timersOk (u : PortUnit) : Bool :=
  u.recoveryOk && (u.restartHold.isSome == (u.state == .restarting)) && (u.stopTimer.isSome == (u.state == .isolated))

/-- Every port's timers run in the states that have them. -/
def portTimersOk (s : State) : Bool := s.ports.a.timersOk && s.ports.b.timersOk && s.ports.k.timersOk

/-! ## Motion (R33) -/

/-- A direction field is STOP exactly when its speed is 0 (R33). -/
def MotionValues.stopExactly (v : MotionValues) : Bool :=
  ((v.hoistDir == .stop) == (v.hoistSpeed == 0)) && ((v.travelDir == .stop) == (v.travelSpeed == 0))

/-- The applied values recorded for each hoist have STOP exactly at speed 0 (R33). -/
def appliedOk (s : State) : Bool := onBoth (fun h => (s.motion.get h).applied.stopExactly)

/-! ## Notices (R158) -/

/-- The contribution of a kind: 4 for an urgent kind that is set, the level of its group for another that is set and
whose group is enabled, else 0 (R157, R158). -/
def contribution (t : PerGroup GroupSetting) (f : NoticeFlags) (n : Notice) : Nat :=
  if f.get n then
    match n.group with
    | none => 4
    | some g => if (t.get g).enabled then (t.get g).level else 0
  else 0

/-- The poll mode is CONTINUOUS exactly while the bath is active (R120). -/
def pollModeOk (s : State) : Bool := (s.bath.mode == .continuous) == bathActive s

end Sys2Proof.Machine
end

