-- ==== Sys2Proof/Certificates/Slice0/Obligations.lean ====
section
/-! DEFINITION. The statements about the KD-40, each a proposition for the provers. A statement of a request has the form
`exec i s = .next (checked q code checks data s s')`: the checks of its rule in order, each a failing condition with the
status it gives, and the state after its effect, in which every part that is not named is as it was. -/

open Sys2Proof Sys2Proof.Machine

/-! ## The queue, the clock and the start -/

/-- A step takes the command at the front of the queue and runs it with the queue's rest. -/
def Obligations.StepRunsTheFrontCommand : Prop :=
  ∀ (c : Instr) (rest : List Instr) (s : State),
    step { s with pending := c :: rest } = exec c { s with pending := rest }

/-- The model's choice (log 2): on an empty queue the time counter advances by 1 ms, nothing else of the part changes,
and the queue receives exactly the expiries of the timers that have reached their deadlines: each of them once and no
other command. -/
def Obligations.EmptyQueuePassesOneMillisecond : Prop :=
  ∀ s : State, s.pending = [] → ∃ ex : List Instr,
    step s = .next { s with now := s.now + 1, sent := [], pending := ex }
    ∧ (∀ p, Instr.replyTimerExpiry p ∈ ex ↔ reachedBy ((s.ports.get p).slot.map Slot.deadline) (s.now + 1))
    ∧ (∀ p, Instr.recoveryTimerExpiry p ∈ ex
        ↔ (s.ports.get p).state = .faulted ∧ reachedBy (s.ports.get p).recovery (s.now + 1))
    ∧ (∀ h, Instr.isolationStopTimerExpiry h ∈ ex
        ↔ (s.ports.get h.port).state = .isolated ∧ reachedBy (s.ports.get h.port).stopTimer (s.now + 1))
    ∧ (∀ p, Instr.restartHoldExpiry p ∈ ex
        ↔ (s.ports.get p).state = .restarting ∧ reachedBy (s.ports.get p).restartHold (s.now + 1))
    ∧ (∀ h, Instr.commandTimerExpiry h ∈ ex ↔ reachedBy (s.motion.get h).commandTimer (s.now + 1))
    ∧ (∀ h, Instr.drainDwellExpiry h ∈ ex
        ↔ (s.contexts.get h).state = .draining ∧ reachedBy (s.contexts.get h).drainTimer (s.now + 1))
    ∧ (∀ h, Instr.weighTimerExpiry h ∈ ex
        ↔ (s.contexts.get h).state = .weighing ∧ reachedBy (s.contexts.get h).weighTimer (s.now + 1))
    ∧ (∀ h, Instr.jigWeighTimerExpiry h ∈ ex
        ↔ (s.contexts.get h).state = .jigWeigh ∧ reachedBy (s.contexts.get h).jigWeigh.timer (s.now + 1))
    ∧ (Instr.pollTimerExpiry ∈ ex ↔ reachedBy s.bath.pollTimer (s.now + 1))
    ∧ (∀ fig, Instr.staleExpiry fig ∈ ex
        ↔ reachedBy ((s.bath.figure fig).bind Figure.deadline) (s.now + 1))
    ∧ (Instr.saveCompletion ∈ ex ↔ reachedBy (s.save.map Save.deadline) (s.now + 1))
    ∧ ex.Nodup
    ∧ (∀ c ∈ ex,
      (∃ p, c = .replyTimerExpiry p ∨ c = .recoveryTimerExpiry p ∨ c = .restartHoldExpiry p)
      ∨ (∃ h, c = .isolationStopTimerExpiry h ∨ c = .commandTimerExpiry h ∨ c = .drainDwellExpiry h
          ∨ c = .weighTimerExpiry h ∨ c = .jigWeighTimerExpiry h)
      ∨ c = .pollTimerExpiry ∨ (∃ fig, c = .staleExpiry fig) ∨ c = .saveCompletion)

/-- The first reset finds a store that was never written, so a bad image: every stored table has the value its rule gives
after a bad image, and every other piece of state the value its chapter gives after device reset; the jig ID and the tare
beside the jig weigh result NONE are left open (log 30). That the store was never written, that the cause is POWER ON and
that the service line is not asserted are the model's choice (log 1); its own two lists are empty (logs 6, 25). -/
def Obligations.ResetHoldsTheValuesOfABadImage : Prop :=
  let t := State.reset.tables
  t.ownAddress = 126
  ∧ (∀ p, (t.ports.get p).window.limit < (t.ports.get p).window.base ∧ (t.ports.get p).replyTimeout = 8
      ∧ (t.ports.get p).recoveryTime = 1000 ∧ (t.ports.get p).strictStop = false)
  ∧ (∀ e ∈ t.traps.toList, e = ⟨false, 0, 0, 0, 0, 0, 0, .always, .note⟩)
  ∧ (∀ h, t.hoists.get h = ⟨none, 600, 600, 1500, 60, 0, 300⟩ ∧ t.calibration.get h = none)
  ∧ t.calibrationLock = false ∧ (∀ x ∈ t.profiles.toList, x = none) ∧ t.jigs = [] ∧ t.jobs = []
  ∧ (∀ z, t.zoneMap.zones.get z = ⟨false, 0, 0⟩) ∧ t.zoneMap.rim = 0 ∧ t.zoneMap.margin = 0
  ∧ t.zoneMap.clearance = 0 ∧ t.zoneMap.emptyLevel = 0 ∧ t.zoneMap.massPerMm = 1 ∧ t.zoneMap.tilt = 10
  ∧ t.bath = ⟨none, 4400, 4650, 30, 10, 5, 100000⟩ ∧ t.balance = ⟨0, 0, 0, 0, 0, 0, 0⟩
  ∧ (∀ g, t.groups.get g = ⟨1, true⟩)
  ∧ State.reset.image = none ∧ State.reset.restartCause = .powerOn ∧ State.reset.serviceAsserted = false
  ∧ State.reset.storeState = .defaults ∧ State.reset.now = 0 ∧ State.reset.seqCounter = 0
  ∧ State.reset.upstreamDamaged = false ∧ State.reset.save = none
  ∧ (∀ p, State.reset.ports.get p = ⟨.opened, false, false, false, none, none, none, none, none⟩)
  ∧ State.reset.trapHits = Vector.replicate 8 0
  ∧ (∀ h, State.reset.motion.get h
        = ⟨⟨.stop, 0, .stop, 0⟩, ⟨.stop, 0, .stop, 0⟩, none, none, .lineController, none, 600⟩
      ∧ State.reset.channels.get h = ⟨none, none, none, false, none, 0, false, none⟩
      ∧ ∃ jig tare, State.reset.contexts.get h = {
        state := .idle, tag := none, pair := .none
        wDry := none, sMass := none, aExp := none, aMin := none, aMax := none, beenInBath := false
        tTare := none, tEntry := none, tImmersion := none, tWithdrawal := none, tDrain := none
        dwellDeadline := none, drainTimer := none, weighTimer := none, floatLatched := false, grounded := false
        flags := ⟨false, false, false, false, false, false, false⟩, reserved := false, claim := .none
        queueWait := false, permit := false, jigWeigh := ⟨jig, .none, tare, none⟩ })
  ∧ (∀ z, State.reset.owners.get z = .none) ∧ State.reset.waiting = none
  ∧ State.reset.bath = ⟨.periodic, none, none, none, none, 0, some .stale, none⟩
  ∧ State.reset.records = [] ∧ State.reset.nextRecord = 0
  ∧ State.reset.notices.kinds = [.restarted, .storedTableError]
  ∧ State.reset.sent = [] ∧ State.reset.pending = []

/-- The state after the first reset meets every invariant stated below. -/
def Obligations.ResetMeetsTheInvariants : Prop :=
  dipsOk State.reset = true ∧ pairsAlike State.reset = true ∧ tagsNameTables State.reset = true ∧ tagZonesOk State.reset = true
  ∧ pollModeOk State.reset = true ∧ massesInRange State.reset = true ∧ zerosInFence State.reset = true
  ∧ storedOk State.reset = true ∧ ratiosOk State.reset = true ∧ portKNeverIsolated State.reset = true
  ∧ portTimersOk State.reset = true ∧ appliedOk State.reset = true

/-- DEVICE RESET performs the start-up of R177: the tables of the image whole where its check is the CRC-16 over its
content and they lie in their ranges, else the defaults (R172; the content's layout, and a check neither reflected nor
inverted, are the model's choice, log 37); the calibration lock cleared under the service line; every block at its values
after device reset; and a poll sent at once where the bath station has an address. The queue is the sender's and is kept
(log 25). Two values of the initial state are the model's choice: the bounds 126 and 1 of the closed windows of a bad image,
of which R2 says only that they are closed (log 5), and the jig ID 0 and the tare 0 beside the last jig weigh result NONE,
which is all that R100 gives (log 30). -/
def Obligations.DeviceResetStartsThePartAfresh : Prop :=
  ∀ (cause : RestartCause) (service : Bool) (s : State) (x : Tables) (good : Bool),
    (s.image = some ⟨x, crc16 (imageContent x)⟩ ∧ x.ok = true ∧ good = true)
      ∨ ((∀ y, s.image = some y → y.check ≠ crc16 (imageContent y.content) ∨ y.content.ok = false)
        ∧ x = Tables.initial ∧ good = false) →
    ∃ t, exec (.deviceReset cause service) s = .next t
      ∧ t.tables = { x with calibrationLock := x.calibrationLock && !service }
      ∧ t.image = s.image ∧ t.save = none ∧ t.storeState = (if good then .good else .defaults)
      ∧ t.restartCause = cause ∧ t.serviceAsserted = service ∧ t.now = 0 ∧ t.upstreamDamaged = false
      ∧ t.ports.a = PortUnit.initial ∧ t.ports.b = PortUnit.initial ∧ t.trapHits = Vector.replicate 8 0
      ∧ (∀ h, t.motion.get h = HoistMotion.initial (min (x.hoists.get h).ratedUp (x.hoists.get h).ratedDown)
          ∧ t.channels.get h = Channel.initial ((x.calibration.get h).map CalRecord.zero)
          ∧ t.contexts.get h = Context.initial)
      ∧ (∀ z, t.owners.get z = .none) ∧ t.waiting = none ∧ t.records = [] ∧ t.nextRecord = 0
      ∧ t.notices = { NoticeFlags.clear with restarted := true, storedTableError := !good }
      ∧ t.pending = s.pending
      ∧ (x.bath.station = none →
          t.bath = BathMonitor.initial ∧ t.ports.k = PortUnit.initial ∧ t.seqCounter = 0 ∧ t.sent = [])
      ∧ (∀ a, x.bath.station = some a →
          t.bath = { BathMonitor.initial with
            lastPoll := some 0, pollTimer := some (x.bath.pollInterval * 1000) }
          ∧ t.ports.k = { PortUnit.initial with
              slot := some ⟨.generated, BitVec.ofNat 8 a, 0, 0x50, x.ports.k.replyTimeout⟩ }
          ∧ t.seqCounter = 1
          ∧ t.sent = [.down .k ⟨BitVec.ofNat 8 a, BitVec.ofNat 8 x.ownAddress, false, true, false, 0, 0, 0x50, []⟩])

/-! ## The store -/

/-- SAVE TABLES takes a snapshot of every stored table with a deadline of 400 ms, the image being overwritten from then
on, and is refused BUSY while a save is in flight; the completion puts the snapshot and the check over its content (R172;
the content's layout, and a check neither reflected nor inverted, are the model's choice, log 37) into the image, ends the save, makes the store state GOOD and sets
SAVE DONE. A completion with no save in flight does nothing (log 3). No command changes the
image but the two requests that start a save, its completion, and a frame that spells one of the two requests. -/
def Obligations.SaveSnapshotsAndCompletes : Prop :=
  (∀ (q : Req) (s : State), exec (.saveTables q) s = .next (checked q 0x82 [(s.save.isSome, .busy)] [] s
      { s with save := some { snapshot := s.tables, deadline := s.now + 400 }, image := none }))
  ∧ (∀ (s : State) (x : Save), s.save = some x → exec .saveCompletion s = .next { s with
      sent := [], image := some ⟨x.snapshot, crc16 (imageContent x.snapshot)⟩, save := none, storeState := .good,
      notices := { s.notices with saveDone := true } })
  ∧ (∀ s : State, s.save = none → exec .saveCompletion s = .next { s with sent := [] })
  ∧ (∀ (i : Instr) (s t : State), i.wellFormed = true →
    (∀ q, i ≠ .saveTables q) → (∀ q, i ≠ .lockCalibration q) → i ≠ .saveCompletion →
    (∀ bytes f, i = .upstreamFrame bytes → parseFrame bytes = some f → f.code ≠ 0x82 ∧ f.code ≠ 0x91) →
    exec i s = .next t → t.image = s.image)

/-- Every request that the catalogue of 10.2 marks as changing a stored table is answered BUSY while a save is in flight,
whatever its operands, and changes nothing. -/
def Obligations.MarkedRequestsAreBusyDuringASave : Prop :=
  ∀ (i : Instr) (code : Byte) (s : State), managementCode i = some code →
    code ∈ [0x81, 0x82, 0x83, 0x85, 0x88, 0x8A, 0x90, 0x91, 0x96, 0x98, 0x99, 0x9C, 0x9D, 0x9E, 0x9F, 0xA8, 0xA9,
      0xAA, 0xAC, 0xB0, 0xB1, 0xB2, 0xB3, 0xB4, 0xB6, 0xB7, 0xB8, 0xB9, 0xBA].map (BitVec.ofNat 8) →
    s.save.isSome = true → exec i s = .next (answered (requester i) code .busy [] s s)

/-! ## Frames and their encodings -/

/-- Every management request is answered once, with the header of R165; a status other than DONE carries no data, and a
refused request changes nothing but the maintenance permit that a TAG LOAD clears (R166). RESTART SEGMENT sends its
reply before anything else. -/
def Obligations.EveryManagementRequestIsAnsweredOnce : Prop :=
  ∀ (i : Instr) (code : Byte) (s : State), managementCode i = some code →
    ∃ (st : Status) (data : List Byte) (t : State), exec i s = .next t
      ∧ ((∀ q n, i ≠ .restartSegment q n) → upFrames t.sent = [replyTo (requester i) code st data s t])
      ∧ (∀ q n, i = .restartSegment q n → ∃ rest, t.sent = .up (replyTo q code st data s s) :: rest)
      ∧ (st ≠ .done → data = [])
      ∧ (st ≠ .done → (∀ q x, i ≠ .tagLoad q x) → t = answered (requester i) code st [] s s)

/-- A frame is damaged by exactly the four tests of R1; on port U it is discarded and sets UPSTREAM DAMAGED. A REPLY on
port U is discarded (R4). The bytes of a frame, its check computed afresh, are read back as that frame (R1, R182). -/
def Obligations.FramesAreReadAsTheyAreWritten : Prop :=
  (∀ bytes : List Byte, parseFrame bytes = none ↔
    (bytes.length < 8 ∨ 60 < (fieldByte bytes 5).toNat ∨ bytes.length ≠ 6 + (fieldByte bytes 5).toNat + 2
      ∨ fieldNat bytes (6 + (fieldByte bytes 5).toNat) 2
        ≠ (crc16 (bytes.take (6 + (fieldByte bytes 5).toNat))).toNat))
  ∧ (∀ (bytes : List Byte) (s : State), parseFrame bytes = none →
      exec (.upstreamFrame bytes) s = .next { s with sent := [], upstreamDamaged := true })
  ∧ (∀ (bytes : List Byte) (f : Frame) (s : State), parseFrame bytes = some f → f.reply = true →
      exec (.upstreamFrame bytes) s = .next { s with sent := [] })
  ∧ (∀ f : Frame, f.payload.length ≤ 60 → f.attention < 8 → parseFrame (encodeFrame f) = some f)

/-- The payload that R182 gives a management request, with its code, is read back as that request, with every field at
every value of its width. -/
def Obligations.ManagementRequestsRoundTrip : Prop :=
  ∀ (i : Instr) (code : Byte), i.wellFormed = true → managementCode i = some code →
    decodeManagement (requester i) code (managementPayload i) = some i

/-- A REQUEST on port U to the own address runs the management request that its code and payload spell; where they spell
none, it is answered BAD REQUEST and nothing changes (R164, R167). The command that stands for an unassigned code or an
unadmitted length does the same. -/
def Obligations.ManagementFramesRunTheirRequest : Prop :=
  (∀ (bytes : List Byte) (f : Frame) (s : State), parseFrame bytes = some f → f.reply = false →
    f.dest.toNat = s.tables.ownAddress →
    (∀ i, decodeManagement ⟨f.src, f.seq⟩ f.code f.payload = some i → exec (.upstreamFrame bytes) s = exec i s)
    ∧ (admits f.code f.payload.length = false →
        exec (.upstreamFrame bytes) s = .next (answered ⟨f.src, f.seq⟩ f.code .badRequest [] s s)))
  ∧ (∀ (q : Req) (code : Byte) (p : List Byte) (s : State), admits code p.length = false →
      exec (.unassignedManagementCode q code p) s = .next (answered q code .badRequest [] s s))
  ∧ (∀ (q : Req) (code : Byte) (p : List Byte),
      (decodeManagement q code p).isSome = admits code p.length)

/-- Whatever a command does, a frame it puts on port U is a REPLY, and a frame it puts on a downstream port is a REQUEST
with attention value 0 and LIMITED clear. -/
def Obligations.EveryFrameSentIsWellMade : Prop :=
  ∀ (i : Instr) (s t : State), exec i s = .next t → ∀ x ∈ t.sent, x.wellMade = true

/-! ## Requests from port U to a station -/

/-- A request that reaches no station is answered locally and changes nothing but a trap's count: NO ROUTE outside every
window, PORT ISOLATED, PORT RESTARTING, PORT BUSY, and TRAPPED at a BLOCK entry (R4, R11, R26). -/
def Obligations.RequestsAnsweredLocally : Prop :=
  ∀ (bytes : List Byte) (f : Frame) (s : State), parseFrame bytes = some f → f.reply = false →
    f.dest.toNat ≠ s.tables.ownAddress → f.dest ≠ 0 →
    ((∀ p, ¬ ((s.tables.ports.get p).window.base ≤ f.dest.toNat ∧ f.dest.toNat ≤ (s.tables.ports.get p).window.limit)) →
      exec (.upstreamFrame bytes) s
        = .next { s with sent := [.up (localFrame f.src f.dest f.seq f.code .noRoute s)] })
    ∧ (∀ p, onlyWindowOf p f.dest.toNat s →
      ((s.ports.get p).state = .isolated → exec (.upstreamFrame bytes) s
        = .next { s with sent := [.up (localFrame f.src f.dest f.seq f.code .portIsolated s)] })
      ∧ ((s.ports.get p).state = .restarting → exec (.upstreamFrame bytes) s
        = .next { s with sent := [.up (localFrame f.src f.dest f.seq f.code .portRestarting s)] })
      ∧ ((s.ports.get p).state = .opened ∨ (s.ports.get p).state = .faulted →
        ((s.ports.get p).slot.isSome = true → exec (.upstreamFrame bytes) s
          = .next { s with sent := [.up (localFrame f.src f.dest f.seq f.code .portBusy s)] })
        ∧ (∀ i, (s.ports.get p).slot = none → trapMatch (some p) f s = some (i, .block) →
          exec (.upstreamFrame bytes) s
            = .next { hitOn i s with sent := [.up (localFrame f.src f.dest f.seq f.code .trapped (hitOn i s))] })))

/-- A request that the traps let pass and that is not a MOTION request to the port's hoist station goes down unchanged but
for its attention value and LIMITED, and takes the port's slot (R4, R6, R21, R30). -/
def Obligations.RequestsAreForwarded : Prop :=
  ∀ (bytes : List Byte) (f : Frame) (s s1 : State) (p : Port), parseFrame bytes = some f → f.reply = false →
    f.dest.toNat ≠ s.tables.ownAddress → f.dest ≠ 0 → onlyWindowOf p f.dest.toNat s →
    ((s.ports.get p).state = .opened ∨ (s.ports.get p).state = .faulted) → (s.ports.get p).slot = none →
    passesTraps (some p) f s s1 →
    (∀ h : Hoist, h.port = p → f.code = 0x31 → (s.tables.hoists.get h).station ≠ some f.dest.toNat) →
    exec (.upstreamFrame bytes) s = .next { s1 with
      sent := [.down p { f with limited := false, attention := 0 }]
      ports := s.ports.set p { s.ports.get p with
        slot := filledSlot p (.forwarded f.src false) f.dest f.seq f.code s } }

/-- A MOTION request to the hoist station goes down with the applied values; it records requested and applied values
and governing limits, makes the line controller the last sender, restarts the command timer, and leaves its limit
result in the slot (R30, R31, R33 to R35, R41). A payload that is not well formed is a request to stop. What the
payload sent down holds where the applied values are the recorded requested ones, a STOP's speed field among it, is
log 12 (DEDUCED). -/
def Obligations.MotionRequestsAreLimited : Prop :=
  ∀ (bytes : List Byte) (f : Frame) (s s1 : State) (h : Hoist) (v w : MotionValues), parseFrame bytes = some f →
    f.reply = false → f.dest.toNat ≠ s.tables.ownAddress → f.dest ≠ 0 → onlyWindowOf h.port f.dest.toNat s →
    ((s.ports.get h.port).state = .opened ∨ (s.ports.get h.port).state = .faulted) →
    (s.ports.get h.port).slot = none → passesTraps (some h.port) f s s1 →
    f.code = 0x31 → (s.tables.hoists.get h).station = some f.dest.toNat →
    v = (motionRequest f.payload).getD ⟨.stop, 0, .stop, 0⟩ → w = appliedValues v h s →
    exec (.upstreamFrame bytes) s = .next { s1 with
      sent := [.down h.port { f with
        limited := false, attention := 0
        payload := if motionRequest f.payload = some w then f.payload else motionPayload w }]
      ports := s.ports.set h.port { s.ports.get h.port with
        slot := filledSlot h.port
          (.forwarded f.src (decide (w.hoistSpeed < v.hoistSpeed) || decide (w.travelSpeed < v.travelSpeed)))
          f.dest f.seq f.code s }
      motion := s.motion.set h { s.motion.get h with
        requested := v, applied := w, govHoist := (hoistAxis v h s).2, govTravel := (travelAxis v h s).2
        sender := .lineController, commandTimer := some (s.now + (s.tables.hoists.get h).commandTimeout) } }

/-- The first enabled entry whose three masked fields match and whose condition holds decides a request, and no later one
is tested (R24 to R26). -/
def Obligations.FirstMatchingTrapDecides : Prop :=
  (∀ (port : Option Port) (f : Frame) (s : State) (i : Nat) (act : TrapAction),
    trapMatch port f s = some (i, act) ↔
      ∃ e, s.tables.traps[i]? = some e ∧ act = e.action ∧ e.decides port f s = true
        ∧ ∀ (j : Nat) (x : TrapEntry), j < i → s.tables.traps[j]? = some x → x.decides port f s = false)
  ∧ (∀ (port : Option Port) (f : Frame) (s : State) (e : TrapEntry), e.decides port f s = true ↔
      (e.enabled = true ∧ f.dest &&& e.destMask = e.destValue &&& e.destMask
      ∧ f.code &&& e.codeMask = e.codeValue &&& e.codeMask
      ∧ (e.firstMask = 0 ∨ ∃ b rest, f.payload = b :: rest ∧ b &&& e.firstMask = e.firstValue &&& e.firstMask)
      ∧ (e.condition = .overKettle → ∃ h : Hoist, port = some h.port
          ∧ (s.tables.hoists.get h).station = some f.dest.toNat
          ∧ (s.contexts.get h).state ∈ [.lowering, .entering, .immersed, .withdrawing, .draining, .abandoned])))

/-- A broadcast is matched once against the traps; unless a BLOCK entry drops it, it goes down on every port that is OPEN
or FAULTED, a MOTION on port K alone; it takes no slot and is answered by nothing (R5, R26). That the frames of the one
event go out in the order A, B, K is the model's choice (log 34). -/
def Obligations.BroadcastsGoToOpenPorts : Prop :=
  ∀ (bytes : List Byte) (f : Frame) (s : State), parseFrame bytes = some f → f.reply = false → f.dest = 0 →
    s.tables.ownAddress ≠ 0 →
    (∀ i, trapMatch none f s = some (i, .block) →
      exec (.upstreamFrame bytes) s = .next { hitOn i s with sent := [] })
    ∧ (∀ s1, passesTraps none f s s1 → exec (.upstreamFrame bytes) s = .next { s1 with
        sent := ([Port.a, Port.b, Port.k].filter (fun p =>
            ((s.ports.get p).state == .opened || (s.ports.get p).state == .faulted) && (p == .k || f.code != 0x31))).map
          (fun p => .down p { f with limited := false, attention := 0 }) })

/-! ## Frames on a downstream port, and what the part sends itself -/

/-- A REPLY that matches the slot frees it, lets a pending generated request take it (before it is processed, log 9, and with the
sequence number and source of the sending, log 44: the model's choices), is weighed when it is the
hoist station's and holds a telemetry block, is read by the bath monitor when it is the bath station's answer to a BATH
READ, and goes up only for a forwarded request, with LIMITED as the slot has it and the attention value of that moment
(R7, R20, R21, R35). -/
def Obligations.MatchedRepliesAreProcessed : Prop :=
  ∀ (p : Port) (bytes : List Byte) (f : Frame) (sl : Slot) (s s0 : State) (up : State → State),
    parseFrame bytes = some f → (s.ports.get p).state ≠ .restarting → (s.ports.get p).slot = some sl →
    f.reply = true → f.src = sl.dest → f.seq = sl.seq →
    s0 = sendPending p { s with sent := [], ports := s.ports.set p { s.ports.get p with slot := none } } →
    (∀ u, up u = match sl.origin with
      | .forwarded _ reduced => { u with sent := u.sent ++ [.up { f with limited := reduced, attention := attention u }] }
      | .generated => u) →
    (∀ h t, h.port = p → (s.tables.hoists.get h).station = some f.src.toNat → telemetryOf f.payload = some t →
      exec (.downstreamFrame p bytes) s = .next (up (takeSample h t s0)))
    ∧ (∀ r, p = .k → s.tables.bath.station = some f.src.toNat → sl.code = 0x50 → bathReadingOf f.payload = some r →
      exec (.downstreamFrame p bytes) s = .next (up (takeBathSample r s0)))
    ∧ ((∀ h, h.port = p → (s.tables.hoists.get h).station ≠ some f.src.toNat ∨ telemetryOf f.payload = none) →
      (p = .k → s.tables.bath.station ≠ some f.src.toNat ∨ sl.code ≠ 0x50 ∨ bathReadingOf f.payload = none) →
      exec (.downstreamFrame p bytes) s = .next (up s0))

/-- A pending generated request takes a free slot where the port's state allows it, and no other state lets it go; each
kind is sent with ORIGIN set, the own address and the part's sequence number, and has the effects of its rule (R17, R20,
R41, R42, R120). That the sequence number and the source are those of the moment at which the request is sent, and not of
that at which it fell due, is the model's choice (log 44). -/
def Obligations.PendingRequestsTakeTheFreeSlot : Prop :=
  (∀ (p : Port) (s : State), (s.ports.get p).slot.isSome = true ∨ (s.ports.get p).pending = none
      ∨ (s.ports.get p).state = .restarting
      ∨ ((s.ports.get p).state = .isolated ∧ (s.ports.get p).pending ≠ some .isolationStop) → sendPending p s = s)
  ∧ (∀ (h : Hoist) (a : Nat) (s : State), (s.ports.get h.port).slot = none →
      (s.ports.get h.port).pending = some .commandStop →
      ((s.ports.get h.port).state = .opened ∨ (s.ports.get h.port).state = .faulted) →
      (s.tables.hoists.get h).station = some a →
      sendPending h.port s = { s with
        sent := s.sent ++ [.down h.port (madeFrame (BitVec.ofNat 8 a) 0x31 [0, 0, 0, 0, 0, 0] s)]
        seqCounter := s.seqCounter + 1
        ports := s.ports.set h.port { s.ports.get h.port with
          pending := none, slot := filledSlot h.port .generated (BitVec.ofNat 8 a) s.seqCounter 0x31 s }
        motion := s.motion.set h { s.motion.get h with
          applied := ⟨.stop, 0, .stop, 0⟩, sender := .timeoutStop
          commandTimer := some (s.now + (s.tables.hoists.get h).commandTimeout) }
        notices := { s.notices with commandTimeoutStop := true } })
  ∧ (∀ (h : Hoist) (a : Nat) (s : State), (s.ports.get h.port).slot = none →
      (s.ports.get h.port).pending = some .isolationStop → (s.ports.get h.port).state ≠ .restarting →
      (s.tables.hoists.get h).station = some a →
      sendPending h.port s = { s with
        sent := s.sent ++ [.down h.port (madeFrame (BitVec.ofNat 8 a) 0x31 [0, 0, 0, 0, 0, 0] s)]
        seqCounter := s.seqCounter + 1
        ports := s.ports.set h.port { s.ports.get h.port with
          pending := none, slot := filledSlot h.port .generated (BitVec.ofNat 8 a) s.seqCounter 0x31 s }
        motion := s.motion.set h { s.motion.get h with
          applied := ⟨.stop, 0, .stop, 0⟩, sender := .isolationStop
          commandTimer := some (s.now + (s.tables.hoists.get h).commandTimeout) } })
  ∧ (∀ (a : Nat) (s : State), s.ports.k.slot = none → s.ports.k.pending = some .poll →
      (s.ports.k.state = .opened ∨ s.ports.k.state = .faulted) → s.tables.bath.station = some a →
      sendPending .k s = { s with
        sent := s.sent ++ [.down .k (madeFrame (BitVec.ofNat 8 a) 0x50 [] s)]
        seqCounter := s.seqCounter + 1
        ports := { s.ports with k := { s.ports.k with
          pending := none, slot := filledSlot .k .generated (BitVec.ofNat 8 a) s.seqCounter 0x50 s } }
        bath := { s.bath with
          lastPoll := some s.now
          pollTimer := some (s.now + if s.bath.mode = .continuous then 200 else s.tables.bath.pollInterval * 1000) } })

/-- A port error on an OPEN or FAULTED port without strict stop sets its kind's flag and PORT FAULT, loads the recovery
timer and makes the port FAULTED; on an ISOLATED port it sets the flag and the notice alone. A damaged frame and an
expired reply timer free the slot, answer a forwarded request before the error is counted, and let a pending generated
request take the slot after it, as PendingRequestsTakeTheFreeSlot says (R20; the order is the model's choice, log 9, and
so is the moment at which that request takes its sequence number and source, log 44); a stray frame leaves the
slot. A frame on a RESTARTING port is discarded (R6, R8 to R10, R12, R18). An expiry command whose reply timer is stopped
or has not run out does nothing (log 3, DEDUCED from R77). -/
def Obligations.PortErrorsFaultThePort : Prop :=
  (∀ (p : Port) (s : State) (u u' : PortUnit), u = s.ports.get p →
    ((u.state = .opened ∨ u.state = .faulted)
        ∧ (∀ h : Hoist, h.port = p → (s.tables.ports.get p).strictStop = false
            ∨ (s.contexts.get h).state.overKettle = false)
        ∧ u' = { u with state := .faulted, recovery := some (s.now + (s.tables.ports.get p).recoveryTime) }
      ∨ u.state = .isolated ∧ u' = u) →
    (∀ bytes, parseFrame bytes = none → exec (.downstreamFrame p bytes) s = .next (sendPending p { s with
      sent := slotReply u.slot .replyDamaged s
      ports := s.ports.set p { u' with slot := none, errDamaged := true }
      notices := { s.notices with portFault := true } }))
    ∧ (∀ bytes f, parseFrame bytes = some f →
      (∀ sl, u.slot = some sl → ¬ (f.reply = true ∧ f.src = sl.dest ∧ f.seq = sl.seq)) →
      exec (.downstreamFrame p bytes) s = .next { s with
        sent := [], ports := s.ports.set p { u' with errStray := true }
        notices := { s.notices with portFault := true } })
    ∧ (reachedBy (u.slot.map Slot.deadline) s.now → exec (.replyTimerExpiry p) s = .next (sendPending p { s with
      sent := slotReply u.slot .noReply s
      ports := s.ports.set p { u' with slot := none, errTimeout := true }
      notices := { s.notices with portFault := true } })))
  ∧ (∀ (p : Port) (bytes : List Byte) (s : State), (s.ports.get p).state = .restarting →
    exec (.downstreamFrame p bytes) s = .next { s with sent := [] })
  ∧ (∀ (p : Port) (s : State), ¬ reachedBy ((s.ports.get p).slot.map Slot.deadline) s.now →
    exec (.replyTimerExpiry p) s = .next { s with sent := [] })

/-- A port error of any kind, a stray frame, a damaged frame or an expired reply timer, on a hoist port with strict stop
enabled and the context over the kettle isolates the port in the order of R16. The request in the slot is answered PORT
ISOLATED at a stray frame, and at the other two has been answered before the error was counted (R8, R10, R179). The dip
closes ABORTED into one record and is charged as UNWEIGHED unless NO_CONTACT is set (R148). The context, and its partner
where the two are driven as a pair (R115), enters ABANDONED with its tag, its claim and its zones; and the first isolation
stop is the last frame sent, with its timer started (R17). -/
def Obligations.StrictStopIsolatesThePort : Prop :=
  ∀ (h : Hoist) (cmd : Instr) (s : State) (u v : PortUnit) (ups : List Sent) (c : Context) (tg : TagArgs) (nc : Bool),
    u = s.ports.get h.port → c = s.contexts.get h → (u.state = .opened ∨ u.state = .faulted) →
    (s.tables.ports.get h.port).strictStop = true → c.state.overKettle = true → c.tag = some tg →
    nc = (c.flags.noContact || c.state == .lowering) →
    ((∃ bytes f, cmd = .downstreamFrame h.port bytes ∧ parseFrame bytes = some f
        ∧ (∀ sl, u.slot = some sl → ¬ (f.reply = true ∧ f.src = sl.dest ∧ f.seq = sl.seq))
        ∧ v = { u with errStray := true }
        ∧ ups = slotReply u.slot .portIsolated { s with notices := { s.notices with portFault := true } })
      ∨ (∃ bytes, cmd = .downstreamFrame h.port bytes ∧ parseFrame bytes = none
        ∧ v = { u with errDamaged := true } ∧ ups = slotReply u.slot .replyDamaged s)
      ∨ (cmd = .replyTimerExpiry h.port ∧ reachedBy (u.slot.map Slot.deadline) s.now
        ∧ v = { u with errTimeout := true } ∧ ups = slotReply u.slot .noReply s)) →
    ∃ (t : State) (n : Byte), exec cmd s = .next t
      ∧ t.ports.get h.port = { v with
          state := .isolated, recovery := none, pending := none, stopTimer := some (s.now + 100)
          slot := (s.tables.hoists.get h).station.map (fun a =>
            ⟨.generated, BitVec.ofNat 8 a, n, 0x31, s.now + (s.tables.ports.get h.port).replyTimeout⟩) }
      ∧ t.ports.get h.other.port = s.ports.get h.other.port
      ∧ upFrames t.sent = upFrames ups
      ∧ (∀ a, (s.tables.hoists.get h).station = some a → t.seqCounter = n + 1
        ∧ t.sent.getLast? = some (.down h.port ⟨BitVec.ofNat 8 a, BitVec.ofNat 8 s.tables.ownAddress, false, true, false,
            0, n, 0x31, [0, 0, 0, 0, 0, 0]⟩)
        ∧ t.motion = s.motion.set h { s.motion.get h with
          applied := ⟨.stop, 0, .stop, 0⟩, sender := .isolationStop
          commandTimer := some (s.now + (s.tables.hoists.get h).commandTimeout) })
      ∧ ((s.tables.hoists.get h).station = none → t.motion = s.motion)
      ∧ t.notices = { s.notices with portFault := true, portIsolated := true, dipClosed := true
                                     recordQueueHigh := s.notices.recordQueueHigh || s.records.length == 39 }
      ∧ t.records = s.records ++ [dipRecord { c with flags := { c.flags with noContact := nc } } tg
          (if joint s then .both else .one h) .aborted s]
      ∧ t.nextRecord = s.nextRecord + 1
      ∧ t.tables = (if nc then s.tables else unweighedTables tg s)
      ∧ t.contexts = (changeDip h (fun x => { x with
          state := .abandoned, drainTimer := none, grounded := false, reserved := false
          flags := { x.flags with noContact := x.flags.noContact || x.state == .lowering } }) s).contexts
      ∧ t.owners = s.owners ∧ t.waiting = s.waiting ∧ t.channels = s.channels

/-- The expiries of a port's recovery timer, restart hold and isolation stop timer, and of a hoist's command timer (R13,
R17, R19, R41, R42). That a request made pending takes no sequence number before it is sent is the model's choice
(log 44). -/
def Obligations.PortAndCommandTimersExpire : Prop :=
  (∀ (p : Port) (s : State), (s.ports.get p).state = .faulted → reachedBy (s.ports.get p).recovery s.now →
    exec (.recoveryTimerExpiry p) s = .next { s with
      sent := [], ports := s.ports.set p { s.ports.get p with state := .opened, recovery := none } })
  ∧ (∀ (p : Port) (s : State), (s.ports.get p).state = .restarting → reachedBy (s.ports.get p).restartHold s.now →
    exec (.restartHoldExpiry p) s = .next (sendPending p { s with
      sent := [], ports := s.ports.set p { s.ports.get p with
        state := .opened, restartHold := none, recovery := none, errDamaged := false, errStray := false
        errTimeout := false } }))
  ∧ (∀ (h : Hoist) (s : State), (s.ports.get h.port).state = .isolated →
    reachedBy (s.ports.get h.port).stopTimer s.now →
    ((s.ports.get h.port).slot.isSome = true → exec (.isolationStopTimerExpiry h) s = .next { s with
      sent := [], ports := s.ports.set h.port { s.ports.get h.port with
        stopTimer := some (s.now + 100), pending := some .isolationStop } })
    ∧ (∀ a, (s.ports.get h.port).slot = none → (s.tables.hoists.get h).station = some a →
      exec (.isolationStopTimerExpiry h) s = .next { s with
        sent := [.down h.port (madeFrame (BitVec.ofNat 8 a) 0x31 [0, 0, 0, 0, 0, 0] s)]
        seqCounter := s.seqCounter + 1
        ports := s.ports.set h.port { s.ports.get h.port with
          stopTimer := some (s.now + 100)
          slot := filledSlot h.port .generated (BitVec.ofNat 8 a) s.seqCounter 0x31 s }
        motion := s.motion.set h { s.motion.get h with
          applied := ⟨.stop, 0, .stop, 0⟩, sender := .isolationStop
          commandTimer := some (s.now + (s.tables.hoists.get h).commandTimeout) } }))
  ∧ (∀ (h : Hoist) (s : State), reachedBy (s.motion.get h).commandTimer s.now →
    (((s.motion.get h).applied.hoistSpeed = 0 ∧ (s.motion.get h).applied.travelSpeed = 0
        ∨ (s.tables.hoists.get h).station = none) → exec (.commandTimerExpiry h) s = .next { s with
      sent := [], motion := s.motion.set h { s.motion.get h with commandTimer := none } })
    ∧ (∀ a, (s.motion.get h).applied.hoistSpeed ≠ 0 ∨ (s.motion.get h).applied.travelSpeed ≠ 0 →
      (s.tables.hoists.get h).station = some a →
      ((s.ports.get h.port).slot = none → (s.ports.get h.port).state = .opened ∨ (s.ports.get h.port).state = .faulted →
        exec (.commandTimerExpiry h) s = .next { s with
          sent := [.down h.port (madeFrame (BitVec.ofNat 8 a) 0x31 [0, 0, 0, 0, 0, 0] s)]
          seqCounter := s.seqCounter + 1
          ports := s.ports.set h.port { s.ports.get h.port with
            slot := filledSlot h.port .generated (BitVec.ofNat 8 a) s.seqCounter 0x31 s }
          motion := s.motion.set h { s.motion.get h with
            applied := ⟨.stop, 0, .stop, 0⟩, sender := .timeoutStop
            commandTimer := some (s.now + (s.tables.hoists.get h).commandTimeout) }
          notices := { s.notices with commandTimeoutStop := true } })
      ∧ ((s.ports.get h.port).slot.isSome = true ∨ (s.ports.get h.port).state = .restarting →
        exec (.commandTimerExpiry h) s = .next { s with
          sent := []
          ports := s.ports.set h.port { s.ports.get h.port with pending := some .commandStop }
          motion := s.motion.set h { s.motion.get h with commandTimer := none } })))

/-- RESTART SEGMENT answers DONE, abandons the request in the slot with PORT RESTARTING, stops the recovery timer and, on
an ISOLATED port, the isolation stops, broadcasts STATION RESTART, and holds the port RESTARTING for 100 ms. It is
refused OUT OF RANGE for a number that is no port, and IN BATH for a hoist over the kettle whose port is not ISOLATED
(R18, R170). -/
def Obligations.RestartSegmentRestartsThePort : Prop :=
  (∀ (q : Req) (n : Nat) (s : State), n = 0 ∨ 3 < n →
    exec (.restartSegment q n) s = .next (answered q 0x86 .outOfRange [] s s))
  ∧ (∀ (q : Req) (h : Hoist) (s : State), (s.contexts.get h).state.overKettle = true →
    (s.ports.get h.port).state ≠ .isolated →
    exec (.restartSegment q (portNum h.port)) s = .next (answered q 0x86 .inBath [] s s))
  ∧ (∀ (q : Req) (p : Port) (s : State),
    (∀ h : Hoist, h.port = p → (s.contexts.get h).state.overKettle = false ∨ (s.ports.get p).state = .isolated) →
    exec (.restartSegment q (portNum p)) s = .next { s with
      sent := [.up (replyTo q 0x86 .done [] s s)] ++ slotReply (s.ports.get p).slot .portRestarting s
        ++ [.down p (madeFrame 0 0x3F [] s)]
      seqCounter := s.seqCounter + 1
      ports := s.ports.set p { s.ports.get p with
        state := .restarting, slot := none, recovery := none, stopTimer := none, restartHold := some (s.now + 100)
        pending := if (s.ports.get p).state = .isolated ∧ (s.ports.get p).pending = some .isolationStop then none
          else (s.ports.get p).pending } })

/-! ## The link's and the filter's tables -/

/-- SET ADDRESS, LOAD WINDOWS and SET PORT TIMING (R3, R15, R169); LOAD TRAP, LOAD HOIST SETTINGS and SET OPERATOR CAP
(R23, R27, R29, R38). That a two-valued byte above 1 is OUT OF RANGE, where the request's own rule does not say so (LOAD
TRAP's enabled, the strict-stop enable), is log 18 (DEDUCED from R182). That LOAD HOIST SETTINGS answers OUT OF RANGE where
a case of NOT ALLOWED holds too is the model's choice (log 38). -/
def Obligations.LinkAndFilterRequests : Prop :=
  (∀ (q : Req) (a : Nat) (s : State), exec (.setAddress q a) s = .next (checked q 0x81
    [(s.save.isSome, .busy), (decide (a < 1 ∨ 126 < a), .outOfRange),
     ([Port.a, Port.b, Port.k].any (fun p => Window.holds (s.tables.ports.get p).window a), .outOfRange)]
    [] s { s with tables := { s.tables with ownAddress := a } }))
  ∧ (∀ (q : Req) (wa wb wk : Window) (s : State), exec (.loadWindows q wa wb wk) s = .next (checked q 0x83
    [(s.save.isSome, .busy),
     ([wa, wb, wk].any (fun w => decide (w.base < 1 ∨ 126 < w.base ∨ w.limit < 1 ∨ 126 < w.limit)), .outOfRange),
     ([wa, wb, wk].any (fun w => Window.holds w s.tables.ownAddress), .outOfRange),
     ((List.range 127).any (fun a => (Window.holds wa a && Window.holds wb a) || (Window.holds wa a && Window.holds wk a)
        || (Window.holds wb a && Window.holds wk a)), .outOfRange)]
    [] s { s with tables := { s.tables with
      ports := ⟨{ s.tables.ports.a with window := wa }, { s.tables.ports.b with window := wb },
       { s.tables.ports.k with window := wk }⟩ } }))
  ∧ (∀ (q : Req) (p : Port) (reply recovery strict : Nat) (s : State),
    exec (.setPortTiming q (portNum p) reply recovery strict) s = .next (checked q 0x85
      [(s.save.isSome, .busy), (decide (reply < 1 ∨ 50 < reply), .outOfRange),
       (decide (recovery < 100 ∨ 10000 < recovery), .outOfRange), (decide (1 < strict), .outOfRange),
       (decide (strict = 1 ∧ p = .k), .outOfRange)]
      [] s { s with tables := { s.tables with
        ports := s.tables.ports.set p { s.tables.ports.get p with
          replyTimeout := reply, recoveryTime := recovery, strictStop := strict == 1 } } }))
  ∧ (∀ (q : Req) (n reply recovery strict : Nat) (s : State), n = 0 ∨ 3 < n →
    exec (.setPortTiming q n reply recovery strict) s
      = .next (checked q 0x85 [(s.save.isSome, .busy), (true, .outOfRange)] [] s s))
  ∧ (∀ (q : Req) (n : Nat) (x : TrapArgs) (s : State), exec (.loadTrap q n x) s = .next (checked q 0x88
    [(s.save.isSome, .busy), (decide (n < 1 ∨ 8 < n), .outOfRange), (decide (1 < x.enabled), .outOfRange),
     (decide (127 < x.destValue.toNat ∨ 127 < x.destMask.toNat), .outOfRange),
     (decide (1 < x.condition ∨ 1 < x.action), .outOfRange)]
    [] s { s with
      tables := { s.tables with
        traps := s.tables.traps.setIfInBounds (n - 1)
          { enabled := x.enabled == 1, destValue := x.destValue, destMask := x.destMask, codeValue := x.codeValue
            codeMask := x.codeMask, firstValue := x.firstValue, firstMask := x.firstMask
            condition := if x.condition = 0 then .always else .overKettle
            action := if x.action = 0 then .note else .block } }
      trapHits := s.trapHits.setIfInBounds (n - 1) 0 }))
  ∧ (∀ (q : Req) (h : Hoist) (x : HoistArgs) (s : State), exec (.loadHoistSettings q h.num x) s = .next (checked q 0x8A
    [(s.save.isSome, .busy), (decide (126 < x.station), .outOfRange),
     (decide (x.ratedUp < 1 ∨ 600 < x.ratedUp ∨ x.ratedDown < 1 ∨ 600 < x.ratedDown), .outOfRange),
     (decide (x.ratedTravel < 1 ∨ 1500 < x.ratedTravel ∨ x.ratedUp < x.creep), .outOfRange),
     (decide (x.offset < -20000 ∨ 20000 < x.offset), .outOfRange),
     (decide (x.commandTimeout < 50 ∨ 2500 < x.commandTimeout ∨ x.commandTimeout % 10 ≠ 0), .outOfRange),
     (decide ((s.contexts.get h).state ≠ .idle), .notAllowed),
     (decide ((s.motion.get h).applied.hoistSpeed ≠ 0 ∨ (s.motion.get h).applied.travelSpeed ≠ 0), .notAllowed),
     (decide ((s.ports.get h.port).state = .isolated), .notAllowed)]
    [] s { s with
      tables := { s.tables with
        hoists := s.tables.hoists.set h
          { station := if x.station = 0 then none else some x.station, ratedUp := x.ratedUp, ratedDown := x.ratedDown
            ratedTravel := x.ratedTravel, creep := x.creep, offset := x.offset, commandTimeout := x.commandTimeout } }
      motion := s.motion.set h { s.motion.get h with
        cap := min (s.motion.get h).cap (min x.ratedUp x.ratedDown) } }))
  ∧ (∀ (q : Req) (h : Hoist) (cap : Nat) (s : State), exec (.setOperatorCap q h.num cap) s = .next (checked q 0x8B
    [(decide (min (s.tables.hoists.get h).ratedUp (s.tables.hoists.get h).ratedDown < cap), .outOfRange)]
    [] s { s with motion := s.motion.set h { s.motion.get h with cap } }))
  ∧ (∀ (q : Req) (n cap : Nat) (x : HoistArgs) (s : State), n = 0 ∨ 2 < n →
    exec (.loadHoistSettings q n x) s = .next (checked q 0x8A [(s.save.isSome, .busy), (true, .outOfRange)] [] s s)
    ∧ exec (.setOperatorCap q n cap) s = .next (answered q 0x8B .outOfRange [] s s))

/-! ## Calibration, profiles, jigs and tags -/

/-- LOAD CALIBRATION, LOCK CALIBRATION and REZERO HOOK (R44 to R46, R58); LOAD PROFILE and REMOVE PROFILE; LOAD JIG of an
existing and of a new jig, WITHDRAW JIG, RETURN JIG and REMOVE JIG (R61 to R67); each check in its order. That the
over-range indication, which R45 makes absent, is held as clear is the model's choice (log 35). -/
def Obligations.CalibrationProfileAndJigRequests : Prop :=
  (∀ (q : Req) (h : Hoist) (x : CalRecord) (s : State), exec (.loadCalibration q h.num x) s = .next (checked q 0x90
    [(s.save.isSome, .busy), (s.tables.calibrationLock, .locked),
     (decide ((s.contexts.get h).state ≠ .idle), .notAllowed),
     (decide (x.zero < -8388608 ∨ 8388607 < x.zero ∨ x.gain < 1 ∨ 65535 < x.gain ∨ 65535 < x.trackRange), .outOfRange),
     (decide (5000 < x.zeroBand ∨ x.shift < 1 ∨ 7 < x.shift ∨ x.settleBand < 1 ∨ 5000 < x.settleBand), .outOfRange),
     (decide (x.settleCount < 2 ∨ 64 < x.settleCount ∨ 400000 < x.overThreshold ∨ 20000 < x.overHyst), .outOfRange)]
    [] s { s with
      tables := { s.tables with calibration := s.tables.calibration.set h (some x) }
      channels := s.channels.set h { s.channels.get h with
        zero := some x.zero, filtered := none, settle := 0, overload := false, mass := none, overRange := false } }))
  ∧ (∀ (q : Req) (s : State), s.tables.calibrationLock = true →
    exec (.lockCalibration q) s = .next (checked q 0x91 [(s.save.isSome, .busy)] [] s s))
  ∧ (∀ (q : Req) (s : State), s.tables.calibrationLock = false →
    exec (.lockCalibration q) s = .next (checked q 0x91
      [(s.save.isSome, .busy), (s.tables.calibration.h1.isNone || s.tables.calibration.h2.isNone, .notCalibrated)]
      [] s { s with
        tables := { s.tables with calibrationLock := true }
        save := some { snapshot := { s.tables with calibrationLock := true }, deadline := s.now + 400 }
        image := none }))
  ∧ (∀ (q : Req) (h : Hoist) (r : CalRecord) (b : Block) (s : State), s.tables.calibration.get h = some r →
    (s.channels.get h).block = some b → exec (.rezeroHook q h.num) s = .next (checked q 0x92
      [(decide ((s.contexts.get h).state ≠ .idle), .notAllowed), (b.moving, .notAllowed), (!b.loadValid, .notAllowed),
       (decide (b.count < r.zero - r.trackRange ∨ r.zero + r.trackRange < b.count), .outOfRange)]
      [] s { s with channels := s.channels.set h { s.channels.get h with
        zero := some b.count, filtered := none, settle := 0 } }))
  ∧ (∀ (q : Req) (h : Hoist) (s : State),
    (s.tables.calibration.get h = none →
      exec (.rezeroHook q h.num) s = .next (answered q 0x92 .notCalibrated [] s s))
    ∧ ((s.tables.calibration.get h).isSome = true → (s.channels.get h).block = none →
      exec (.rezeroHook q h.num) s = .next (answered q 0x92 .notAllowed [] s s)))
  ∧ (∀ (q : Req) (n : Nat) (x : CalRecord) (s : State), n = 0 ∨ 2 < n →
    exec (.loadCalibration q n x) s = .next (checked q 0x90 [(s.save.isSome, .busy), (true, .outOfRange)] [] s s)
    ∧ exec (.rezeroHook q n) s = .next (answered q 0x92 .outOfRange [] s s))
  ∧ (∀ (q : Req) (n : Nat) (x : Profile) (s : State), exec (.loadProfile q n x) s = .next (checked q 0x98
    [(s.save.isSome, .busy), (decide (n < 1 ∨ 16 < n), .outOfRange),
     (decide (600 < x.approachSpeed ∨ 600 < x.entrySpeed ∨ 600 < x.withdrawSpeed ∨ 600 < x.drainSpeed), .outOfRange),
     (decide (500 < x.coverDepth ∨ x.minDwell < 1 ∨ 6000 < x.minDwell ∨ 3000 < x.drainDwell), .outOfRange),
     (decide (x.weighTimeout < 50 ∨ 1200 < x.weighTimeout ∨ 20000 < x.floatMargin), .outOfRange),
     (decide (x.groundFraction < 10 ∨ 500 < x.groundFraction), .outOfRange),
     (decide (x.buoyancy ≠ 0 ∧ (x.buoyancy < 600 ∨ 900 < x.buoyancy)), .outOfRange),
     ((findProfile n s).isSome && anyTag (fun t => t.profile == n) s, .inUse)]
    [] s { s with tables := { s.tables with
      profiles := s.tables.profiles.setIfInBounds (n - 1)
        (some { x with buoyancy := if x.buoyancy = 0 then 841 else x.buoyancy }) } }))
  ∧ (∀ (q : Req) (n : Nat) (s : State), exec (.removeProfile q n) s = .next (checked q 0x99
    [(s.save.isSome, .busy), (decide (n < 1 ∨ 16 < n), .outOfRange), ((findProfile n s).isNone, .notFound),
     (anyTag (fun t => t.profile == n) s, .inUse)]
    [] s { s with tables := { s.tables with profiles := s.tables.profiles.setIfInBounds (n - 1) none } }))
  ∧ (∀ (q : Req) (n tare allowance : Nat) (s : State), (findJig n s).isSome = true →
    exec (.loadJig q n tare allowance) s = .next (checked q 0x9C
      [(s.save.isSome, .busy), (decide (n < 1 ∨ 4095 < n ∨ 100000 < tare ∨ 5000 < allowance), .outOfRange),
       (jigInUse n s, .inUse)]
      [] s { s with tables := { s.tables with
        jigs := s.tables.jigs.map
          (fun j => if j.id = n then { j with tare, allowance, dips := 0, zinc := 0 } else j) } }))
  ∧ (∀ (q : Req) (n tare allowance : Nat) (s : State), findJig n s = none →
    exec (.loadJig q n tare allowance) s = .next (checked q 0x9C
      [(s.save.isSome, .busy), (decide (n < 1 ∨ 4095 < n ∨ 100000 < tare ∨ 5000 < allowance), .outOfRange),
       (decide (64 ≤ s.tables.jigs.length), .full)]
      [] s { s with tables := { s.tables with jigs := s.tables.jigs ++ [⟨n, tare, allowance, 0, 0, .inService⟩] } }))
  ∧ (∀ (q : Req) (n : Nat) (s : State), exec (.withdrawJig q n) s = .next (checked q 0x9D
    [(s.save.isSome, .busy), ((findJig n s).isNone, .notFound), (jigInUse n s, .inUse)]
    [] s { s with tables := { s.tables with
      jigs := s.tables.jigs.map (fun j => if j.id = n then { j with status := .withdrawn } else j) } }))
  ∧ (∀ (q : Req) (n : Nat) (s : State), exec (.returnJig q n) s = .next (checked q 0x9E
    [(s.save.isSome, .busy), ((findJig n s).isNone, .notFound)]
    [] s { s with tables := { s.tables with
      jigs := s.tables.jigs.map (fun j => if j.id = n then { j with status := .inService } else j) } }))
  ∧ (∀ (q : Req) (n : Nat) (s : State), exec (.removeJig q n) s = .next (checked q 0x9F
    [(s.save.isSome, .busy), ((findJig n s).isNone, .notFound), (jigInUse n s, .inUse)]
    [] s { s with tables := { s.tables with jigs := s.tables.jigs.filter (fun j => j.id != n) } }))

/-- TAG LOAD: its checks 2 to 11 in order; whatever the answer, the hoist's maintenance permit is cleared; when all
pass, the context takes the tag in TAGGED, alone, as PARTNER PENDING, or as the second half of a pair (R69, R71, R78,
R110). That the second half takes the dip flags of the first, so that the pair holds them alike (R111), is log 27
(DEDUCED). -/
def Obligations.TagLoadChecksAndTags : Prop :=
  (∀ (q : Req) (x : TagArgs) (h : Hoist) (s s0 : State) (o : Context), x.hoist = h.num →
    o = s.contexts.get h.other →
    s0 = { s with contexts := s.contexts.set h { s.contexts.get h with permit := false } } →
    exec (.tagLoad q x) s = .next (match firstFailure
      [(decide ((s.contexts.get h).state ≠ .idle), .busy), ((s.contexts.get h).permit, .notAllowed),
       ((s.tables.calibration.get h).isNone, .notCalibrated),
       ((findJob x.job s).isNone, .notFound), ((findJob x.job s).any (fun j => j.status == .closed), .notAllowed),
       ((findJob x.job s).any (fun j => j.status == .held), .held),
       ((findJig x.jig s).isNone, .notFound), ((findJig x.jig s).any (fun j => j.status == .withdrawn), .notAllowed),
       (hoistUsesJig h.other x.jig s && !(decide (x.token ≠ 0) && o.state == .tagged && o.pair == .partnerPending
          && o.tag.any (fun t => t.token == x.token)), .inUse),
       ((findProfile x.profile s).isNone, .notFound),
       (decide (x.loadDepth < 100 ∨ 12000 < x.loadDepth ∨ x.workHeight < 50 ∨ x.loadDepth < x.workHeight), .outOfRange),
       (decide (x.firstZone < 1 ∨ 4 < x.lastZone ∨ x.lastZone < x.firstZone ∨ 255 < x.token), .outOfRange),
       (Zone.all.any (fun z => decide (x.firstZone ≤ z.num ∧ z.num ≤ x.lastZone)
          && !(s.tables.zoneMap.zones.get z).inService), .notAllowed),
       (decide (x.token ≠ 0) && o.pair == .partnerPending
          && o.tag.any (fun t => t.token != x.token || t.job != x.job || t.jig != x.jig || t.profile != x.profile
            || t.firstZone != x.firstZone || t.lastZone != x.lastZone), .pairMismatch)]
      with
      | some st => answered q 0xA2 st [] s s0
      | none => answered q 0xA2 .done [] s { s with
          contexts := (s.contexts.set h { Context.initial with
            jigWeigh := (s.contexts.get h).jigWeigh, state := .tagged, tag := some x
            pair := if x.token = 0 then .none else if o.pair = .partnerPending then .paired else .partnerPending
            flags := if x.token ≠ 0 ∧ o.pair = .partnerPending then o.flags else DipFlags.clear }).set
              h.other (if x.token ≠ 0 ∧ o.pair = .partnerPending then { o with pair := .paired } else o) }))
  ∧ (∀ (q : Req) (x : TagArgs) (s : State), x.hoist = 0 ∨ 2 < x.hoist →
    exec (.tagLoad q x) s = .next (answered q 0xA2 .outOfRange [] s s))

/-- CANCEL LOAD by the state of the context, the place and the waiting claim given up with the tag, a pair's other
context PARTNER PENDING again; and SET MAINTENANCE PERMIT (R70, R71, R114), whose refusal of a value above 1 is log 18
(DEDUCED from R182). -/
def Obligations.CancelLoadAndPermit : Prop :=
  (∀ (q : Req) (h : Hoist) (s : State),
    ((s.contexts.get h).state = .idle → exec (.cancelLoad q h.num) s = .next (answered q 0xA3 .done [] s s))
    ∧ ((s.contexts.get h).state = .jigWeigh →
      exec (.cancelLoad q h.num) s = .next (answered q 0xA3 .notAllowed [] s s))
    ∧ ((s.contexts.get h).state ∈ [.lowering, .entering, .immersed, .withdrawing, .draining, .weighing, .abandoned] →
      exec (.cancelLoad q h.num) s = .next (answered q 0xA3 .inBath [] s s))
    ∧ ((s.contexts.get h).state ∈ [.tagged, .ready, .waitingZone] →
      ((s.contexts.get h).pair ≠ .paired ∨ (s.contexts.get h.other).pair ≠ .paired →
        exec (.cancelLoad q h.num) s = .next (answered q 0xA3 .done [] s { s with
          waiting := if (s.contexts.get h).state = .waitingZone then none else s.waiting
          contexts := s.contexts.set h (s.contexts.get h).ended }))
      ∧ ((s.contexts.get h).pair = .paired → (s.contexts.get h.other).pair = .paired →
        (s.contexts.get h.other).tag.isSome = true →
        exec (.cancelLoad q h.num) s = .next (answered q 0xA3 .done [] s { s with
          waiting := if (s.contexts.get h).state = .waitingZone then none else s.waiting
          contexts := (s.contexts.set h (s.contexts.get h).ended).set h.other
            { (s.contexts.get h.other).ended with
              state := .tagged, tag := (s.contexts.get h.other).tag, pair := .partnerPending } }))))
  ∧ (∀ (q : Req) (h : Hoist) (v : Nat) (s : State), exec (.setMaintenancePermit q h.num v) s = .next (checked q 0xA4
    [(decide (1 < v), .outOfRange), (decide (v = 1 ∧ (s.contexts.get h).state ≠ .idle), .notAllowed)]
    [] s { s with contexts := s.contexts.set h { s.contexts.get h with permit := v == 1 } }))
  ∧ (∀ (q : Req) (n v : Nat) (s : State), n = 0 ∨ 2 < n →
    exec (.cancelLoad q n) s = .next (answered q 0xA3 .outOfRange [] s s)
    ∧ exec (.setMaintenancePermit q n v) s = .next (answered q 0xA4 .outOfRange [] s s))

/-- WEIGH JIG by its checks, the sample that completes the weighing, a sample that finds the channel not settled or moving
and so changes nothing at the context or the jig, and the timer that ends the weighing (R94, R95). That an
expiry command whose timer is stopped or has not run out does nothing is log 3 (DEDUCED from R77). -/
def Obligations.JigWeighing : Prop :=
  (∀ (q : Req) (h : Hoist) (n : Nat) (s : State), exec (.weighJig q h.num n) s = .next (checked q 0xA5
    [(decide ((s.contexts.get h).state ≠ .idle), .busy), ((s.tables.calibration.get h).isNone, .notCalibrated),
     ((findJig n s).isNone, .notFound), (jigInUse n s, .inUse)]
    [] s { s with contexts := s.contexts.set h { s.contexts.get h with
      state := .jigWeigh, jigWeigh := ⟨n, .inProgress, 0, some (s.now + 30000)⟩ } }))
  ∧ (∀ (q : Req) (m n : Nat) (s : State), m = 0 ∨ 2 < m →
    exec (.weighJig q m n) s = .next (answered q 0xA5 .outOfRange [] s s))
  ∧ (∀ (h : Hoist) (f : Int) (s : State), pollModeOk s = true → (s.contexts.get h).state = .jigWeigh →
    (s.channels.get h).filtered = some f → channelSettled h s = true → channelStill h s = true →
    contextSample h s = { s with
      tables := { s.tables with
        jigs := s.tables.jigs.map (fun j => if j.id = (s.contexts.get h).jigWeigh.jig then
          { j with tare := (max 0 (min 100000 f)).toNat, dips := 0, zinc := 0 } else j) }
      contexts := s.contexts.set h { s.contexts.get h with
        state := .idle
        jigWeigh := ⟨(s.contexts.get h).jigWeigh.jig, if 0 ≤ f ∧ f ≤ 100000 then .done else .tareClamped,
          (max 0 (min 100000 f)).toNat, none⟩ } })
  ∧ (∀ (h : Hoist) (s : State), pollModeOk s = true → (s.contexts.get h).state = .jigWeigh →
    (s.channels.get h).filtered = none ∨ channelSettled h s = false ∨ channelStill h s = false → contextSample h s = s)
  ∧ (∀ (h : Hoist) (s : State), (s.contexts.get h).state = .jigWeigh →
    reachedBy (s.contexts.get h).jigWeigh.timer s.now → exec (.jigWeighTimerExpiry h) s = .next { s with
      sent := [], contexts := s.contexts.set h { s.contexts.get h with
        state := .idle, jigWeigh := { (s.contexts.get h).jigWeigh with result := .timedOut, timer := none } } })
  ∧ (∀ (h : Hoist) (s : State),
    (s.contexts.get h).state ≠ .jigWeigh ∨ ¬ reachedBy (s.contexts.get h).jigWeigh.timer s.now →
      exec (.jigWeighTimerExpiry h) s = .next { s with sent := [] })

/-! ## The dip -/

/-- The sample that tests a TAGGED context with settled, still channels and a partner if it needs one: the tare is
captured with S, A_exp, A_min and A_max when fewer than 48 places are taken, and queue wait is set otherwise. At a sample
whose channels are not settled or not still, or that has no f, and in a PARTNER PENDING context, nothing is captured and
nothing changes (R79, R112): that queue wait too is left as it stands there is the model's choice (DEDUCED, log 11). -/
def Obligations.TareCaptureNeedsAFreePlace : Prop :=
  (∀ (h : Hoist) (s : State) (t : TagArgs) (j : Jig) (pr : Profile) (f : Int), (s.contexts.get h).state = .tagged →
    (s.contexts.get h).tag = some t → findJig t.jig s = some j → findProfile t.profile s = some pr →
    (s.contexts.get h).pair ≠ .partnerPending → dipFiltered h s = some f → dipSettled h s = true →
    dipStill h s = true →
    (s.records.length + reservedPlaces s < 48 → transitionTest h s = changeDip h (fun c => { c with
      state := .ready, reserved := true, queueWait := false, wDry := some f, tTare := some s.now
      sMass := some (f - j.tare).toNat
      aExp := some (f - ((f - j.tare).toNat * pr.buoyancy / 1000 : Nat)), aMin := some f, aMax := some f
      flags := { c.flags with noSteel := c.flags.noSteel || decide (f ≤ j.tare) } }) s)
    ∧ (48 ≤ s.records.length + reservedPlaces s →
      transitionTest h s = changeDip h (fun c => { c with queueWait := true }) s))
  ∧ (∀ (h : Hoist) (s : State), (s.contexts.get h).state = .tagged →
    (s.contexts.get h).pair = .partnerPending ∨ dipFiltered h s = none ∨ dipSettled h s = false ∨ dipStill h s = false →
    transitionTest h s = s)

/-- The height tests from READY to WITHDRAWING, against the approach height, the surface and the cover depth, on the
values of the pair for a pair (R80, R82 to R85, R111). A test whose bottom, top or surface is absent is not passed, and
the context stays as it is (R76). -/
def Obligations.HeightsDriveTheDipThroughTheBath : Prop :=
  (∀ (h : Hoist) (s : State) (tg : TagArgs) (b : Int), (s.contexts.get h).state = .ready →
    (s.contexts.get h).tag = some tg → dipBottom h s = some b → transitionTest h s =
      if b ≤ s.tables.zoneMap.rim + s.tables.zoneMap.margin ∧ s.bath.hold = none then
        submitClaim (if joint s then .pair else .hoist h) tg.firstZone tg.lastZone s
      else s)
  ∧ (∀ (h : Hoist) (s : State) (b y : Int), (s.contexts.get h).state = .lowering → dipBottom h s = some b →
    surface s = some y → transitionTest h s =
      if b < y then changeDip h (fun c => { c with state := .entering, tEntry := some s.now, beenInBath := true }) s
      else s)
  ∧ (∀ (h : Hoist) (s : State),
    ((s.contexts.get h).state ∈ [.ready, .lowering, .entering, .immersed, .withdrawing] → dipBottom h s = none →
      transitionTest h s = s)
    ∧ ((s.contexts.get h).state ∈ [.entering, .immersed, .withdrawing] → dipTop h s = none → transitionTest h s = s)
    ∧ ((s.contexts.get h).state ∈ [.lowering, .entering, .immersed, .withdrawing] → surface s = none →
      transitionTest h s = s))
  ∧ (∀ (h : Hoist) (s : State) (tg : TagArgs) (pr : Profile) (b t y : Int), (s.contexts.get h).tag = some tg →
    findProfile tg.profile s = some pr → dipBottom h s = some b → dipTop h s = some t → surface s = some y →
    ((s.contexts.get h).state = .entering →
      (t ≤ y - pr.coverDepth → transitionTest h s = changeDip h (fun c => { c with
        state := .immersed
        tImmersion := some (c.tImmersion.getD s.now)
        dwellDeadline := if c.tImmersion.isSome then c.dwellDeadline else some (s.now + pr.minDwell * 100) }) s)
      ∧ (y - pr.coverDepth < t → b < y → transitionTest h s = s)
      ∧ (y - pr.coverDepth < t → y ≤ b → 0 < pr.drainDwell → transitionTest h s = changeDip h (fun c => { c with
        state := .draining, tDrain := some s.now, grounded := false
        drainTimer := some (s.now + pr.drainDwell * 100), flags := { c.flags with shortImmersion := true } }) s)
      ∧ (y - pr.coverDepth < t → y ≤ b → pr.drainDwell = 0 → transitionTest h s = changeDip h (fun c => { c with
        state := .weighing, tDrain := some s.now, grounded := false, drainTimer := none
        weighTimer := some (s.now + pr.weighTimeout * 100)
        flags := { c.flags with shortImmersion := true } }) (restartSettle h s)))
    ∧ ((s.contexts.get h).state = .immersed → transitionTest h s =
      if y - pr.coverDepth < t then changeDip h (fun c => { c with
        state := .withdrawing, tWithdrawal := some s.now
        flags := { c.flags with
          shortImmersion := c.flags.shortImmersion || !(c.dwellDeadline.any (fun d => d ≤ s.now)) } }) s
      else s)
    ∧ ((s.contexts.get h).state = .withdrawing →
      (t ≤ y - pr.coverDepth → (∀ x, sharesDip h x s = true → (s.contexts.get x).tImmersion.isSome = true) →
        transitionTest h s = changeDip h (fun c => { c with
          state := .immersed, flags := { c.flags with reImmersed := true } }) s)
      ∧ (y - pr.coverDepth < t → b < y → transitionTest h s = s)
      ∧ (y - pr.coverDepth < t → y ≤ b → 0 < pr.drainDwell → transitionTest h s = changeDip h (fun c => { c with
        state := .draining, tDrain := some s.now, grounded := false
        drainTimer := some (s.now + pr.drainDwell * 100) }) s)
      ∧ (y - pr.coverDepth < t → y ≤ b → pr.drainDwell = 0 → transitionTest h s = changeDip h (fun c => { c with
        state := .weighing, tDrain := some s.now, grounded := false, drainTimer := none
        weighTimer := some (s.now + pr.weighTimeout * 100) }) (restartSettle h s))))

/-- The updates at a sample that leaves the context in ENTERING, IMMERSED or WITHDRAWING: the extremes of f; grounding
against floor(W_dry × ground fraction / 1000) with its flag and notice at each onset; and, where the sample found the
context in IMMERSED (R84) or leaves it there (R76), the float latch below A_exp less the float margin with its flag and
notice (R86, R87; the two rules read together are log 10). A hoist that shares the dip and holds its figures alike takes
them alike (R111), and the context of one that does not is unchanged. -/
def Obligations.InBathSamplesGroundAndFloat : Prop :=
  ∀ (h : Hoist) (found : DipState) (s t : State) (c c' o : Context) (tg : TagArgs) (pr : Profile)
    (f wDry aExp lo hi : Int), c = s.contexts.get h → c.state ∈ [.entering, .immersed, .withdrawing] → c.tag = some tg →
    findProfile tg.profile s = some pr → dipFiltered h s = some f → c.wDry = some wDry → c.aExp = some aExp →
    c.aMin = some lo → c.aMax = some hi → t = inBathUpdates h found s → c' = t.contexts.get h →
    o = s.contexts.get h.other →
    c' = { c with
      aMin := some (min f lo), aMax := some (max f hi)
      grounded := decide (f < wDry * pr.groundFraction / 1000)
      floatLatched := c.floatLatched
        || ((found == .immersed || c.state == .immersed) && decide (f < aExp - pr.floatMargin))
      flags := { c.flags with
        grounded := c.flags.grounded || (c'.grounded && !c.grounded)
        float := c.flags.float || (c'.floatLatched && !c.floatLatched) } }
    ∧ (joint s = false → t.contexts.get h.other = o)
    ∧ (joint s = true → o = { c with tag := o.tag, permit := o.permit, jigWeigh := o.jigWeigh } →
      t.contexts.get h.other = { c' with tag := o.tag, permit := o.permit, jigWeigh := o.jigWeigh })
    ∧ t = { s with
      contexts := t.contexts
      notices := { s.notices with
        grounded := s.notices.grounded || (c'.grounded && !c.grounded)
        floatAnomaly := s.notices.floatAnomaly || (c'.floatLatched && !c.floatLatched) } }

/-- A sample in WEIGHING first releases a held claim at or above the approach height, then closes the dip NORMAL with the
settled weight, after which the contexts are back in IDLE; both may be taken at one sample, and a claim that the settled
sample finds still held below the approach height is released after the close (R89, R91, R107, R112, R113). A sample in
ABANDONED that finds the hoist's own bottom at or above the approach height takes its context to IDLE and releases the
zones of a single dip, or those of a pair at the exit of the second of its contexts (R93, R116). -/
def Obligations.WeighingAndAbandonedSamplesReleaseAndClose : Prop :=
  (∀ (h : Hoist) (s rel : State) (c : Context) (tg : TagArgs) (b f : Int), c = s.contexts.get h → c.state = .weighing →
    c.tag = some tg → dipBottom h s = some b → dipFiltered h s = some f → (c.claim = .held → waitingOk s = true) →
    rel = (if c.claim = .held ∧ s.tables.zoneMap.rim + s.tables.zoneMap.margin ≤ b then releaseDip h s else s) →
    (dipSettled h s = false → transitionTest h s = rel)
    ∧ (dipSettled h s = true → c.claim ≠ .held ∨ s.tables.zoneMap.rim + s.tables.zoneMap.margin ≤ b →
      transitionTest h s
        = changeDip h Context.ended (closeNormal c tg (if joint s then .both else .one h) f rel))
    ∧ (dipSettled h s = true → c.claim = .held → b < s.tables.zoneMap.rim + s.tables.zoneMap.margin →
      transitionTest h s
        = changeDip h Context.ended (releaseDip h (closeNormal c tg (if joint s then .both else .one h) f s))))
  ∧ (∀ (h : Hoist) (s out : State) (c o : Context), c = s.contexts.get h → o = s.contexts.get h.other →
    c.state = .abandoned → out = { s with contexts := s.contexts.set h c.ended } →
    (ownBottom h s = none → transitionTest h s = s)
    ∧ (∀ b, ownBottom h s = some b →
      (b < s.tables.zoneMap.rim + s.tables.zoneMap.margin → transitionTest h s = s)
      ∧ (s.tables.zoneMap.rim + s.tables.zoneMap.margin ≤ b →
        (c.pair ≠ .paired → transitionTest h s = releaseZones (.hoist h) out)
        ∧ (c.pair = .paired → o.state = .abandoned ∧ o.pair = .paired → transitionTest h s = out)
        ∧ (c.pair = .paired → ¬ (o.state = .abandoned ∧ o.pair = .paired) →
          transitionTest h s = releaseZones .pair out))))

/-- The drain dwell takes the dip to WEIGHING with its channels' settle counts at 0 and the weigh timer loaded; the weigh
timer closes the dip UNWEIGHED, charging the job, the jig's allowance and the kettle's unweighed dips, releases a claim
still held, and ends the dip; nothing goes up, and the channels, the motion records and ports A and B stay (R77, R88, R90, R91, R147, R150). That an expiry command whose timer is stopped or has not run
out does nothing is log 3 (DEDUCED from R77). -/
def Obligations.DrainAndWeighTimersExpire : Prop :=
  (∀ (h : Hoist) (s : State) (tg : TagArgs) (pr : Profile), (s.contexts.get h).state = .draining →
    reachedBy (s.contexts.get h).drainTimer s.now → (s.contexts.get h).tag = some tg →
    findProfile tg.profile s = some pr → ∃ t, exec (.drainDwellExpiry h) s = .next t
      ∧ t.contexts = (changeDip h (fun c => { c with
          state := .weighing, drainTimer := none, weighTimer := some (s.now + pr.weighTimeout * 100) }) s).contexts
      ∧ t.channels = (restartSettle h s).channels ∧ t.owners = s.owners ∧ t.waiting = s.waiting
      ∧ t.tables = s.tables ∧ t.records = s.records ∧ t.notices = s.notices ∧ t.motion = s.motion
      ∧ t.ports.a = s.ports.a ∧ t.ports.b = s.ports.b ∧ upFrames t.sent = [])
  ∧ (∀ (h : Hoist) (s : State) (tg : TagArgs), (s.contexts.get h).state = .weighing →
    reachedBy (s.contexts.get h).weighTimer s.now → (s.contexts.get h).tag = some tg →
    ∃ t : State, exec (.weighTimerExpiry h) s = .next t
      ∧ t.records = s.records ++ [dipRecord (s.contexts.get h) tg (if joint s then .both else .one h) .unweighed s]
      ∧ t.nextRecord = s.nextRecord + 1
      ∧ (∀ x, sharesDip h x s = true → t.contexts.get x = (s.contexts.get x).ended)
      ∧ ((s.contexts.get h).claim ≠ .held → t.owners = s.owners ∧ t.waiting = s.waiting
          ∧ (∀ x, sharesDip h x s = false → t.contexts.get x = s.contexts.get x))
      ∧ ((s.contexts.get h).claim = .held → t.owners = (releaseDip h s).owners ∧ t.waiting = (releaseDip h s).waiting
          ∧ (∀ x, sharesDip h x s = false → t.contexts.get x = (releaseDip h s).contexts.get x))
      ∧ t.tables = unweighedTables tg s
      ∧ t.notices = { s.notices with
        dipClosed := true, recordQueueHigh := s.notices.recordQueueHigh || s.records.length == 39 }
      ∧ t.channels = s.channels ∧ t.motion = s.motion ∧ t.ports.a = s.ports.a ∧ t.ports.b = s.ports.b
      ∧ upFrames t.sent = [])
  ∧ (∀ (h : Hoist) (s : State),
    ((s.contexts.get h).state ≠ .draining ∨ ¬ reachedBy (s.contexts.get h).drainTimer s.now →
      exec (.drainDwellExpiry h) s = .next { s with sent := [] })
    ∧ ((s.contexts.get h).state ≠ .weighing ∨ ¬ reachedBy (s.contexts.get h).weighTimer s.now →
      exec (.weighTimerExpiry h) s = .next { s with sent := [] }))

/-- The arithmetic of a NORMAL close: P, J, Pw, the ratio and the flags NEG_PICKUP, UNDER and OVER, and the bound of P for
the masses of a pair (R145). -/
def Obligations.NormalCloseArithmetic : Prop :=
  ∀ (wDry wWet : Int) (sMass allowance rMin rMax : Nat) (p j w : Nat) (f : PickupFigures),
    f = pickupFigures wDry sMass wWet allowance rMin rMax →
    p = f.pickup → j = f.jigShare → w = f.workShare →
    ((0 ≤ wWet - wDry → (p : Int) = wWet - wDry ∧ f.negPickup = false)
      ∧ (wWet - wDry < 0 → p = 0 ∧ f.negPickup = true))
    ∧ j = min p allowance ∧ w = p - j ∧ j ≤ p
    ∧ (0 < sMass → f.ratio = some (if w * 1000 / sMass ≤ 999 then w * 1000 / sMass else 999))
    ∧ (sMass = 0 → f.ratio = none ∧ f.underBand = false ∧ f.overBand = false)
    ∧ (∀ r, f.ratio = some r → f.underBand = decide (r < rMin) ∧ f.overBand = decide (rMax < r))
    ∧ (-20000 ≤ wDry → wWet ≤ 800000 → p ≤ 820000)

/-- A NORMAL close writes the record, then charges the job, the jig and the kettle and sets the notices of its outcome
(R144, R146, R150, R151). -/
def Obligations.NormalCloseChargesTheAccounts : Prop :=
  ∀ (c : Context) (tg : TagArgs) (hoist : RecordHoist) (wWet wDry : Int) (sMass : Nat) (j : Job) (g : Jig) (s : State)
    (f : PickupFigures) (n : Nat), c.wDry = some wDry → c.sMass = some sMass →
    findJob tg.job s = some j → findJig tg.jig s = some g → (∀ x ∈ s.tables.jobs, x.number = tg.job → x = j) →
    f = pickupFigures wDry sMass wWet g.allowance j.rMin j.rMax →
    n = min 65535 (j.overCount + if f.overBand then 1 else 0) →
    closeNormal c tg hoist wWet s = { s with
        records := s.records ++ [{ dipRecord c tg hoist .normal s with
          wet := some ⟨wWet, f.pickup, f.jigShare, f.workShare, j.rMin, j.rMax⟩, ratio := f.ratio
          negPickup := f.negPickup, underBand := f.underBand, overBand := f.overBand }]
        nextRecord := s.nextRecord + 1
        tables := { s.tables with
          jobs := s.tables.jobs.map (fun x => if x.number = tg.job then { j with
            dips := min 65535 (j.dips + 1), steel := min 4294967295 (j.steel + sMass)
            pickup := min 4294967295 (j.pickup + f.workShare)
            underCount := min 65535 (j.underCount + if f.underBand then 1 else 0), overCount := n
            status := if f.overBand ∧ j.status = .opened ∧ j.holdCount ≠ 0 ∧ j.holdCount ≤ n then .held
              else j.status } else x)
          jigs := s.tables.jigs.map (fun x => if x.id = tg.jig then { x with
            tare := min 100000 (x.tare + f.jigShare), zinc := min 4294967295 (x.zinc + f.jigShare)
            dips := min 65535 (x.dips + 1) } else x)
          balance := { s.tables.balance with
            k := s.tables.balance.k - f.pickup, pickups := s.tables.balance.pickups + f.pickup
            shortfall := s.tables.balance.shortfall + (f.pickup - s.tables.balance.k) } }
        notices := { s.notices with
          dipClosed := true
          pickupOutOfBand := s.notices.pickupOutOfBand || f.underBand || f.overBand
          jobHeld := s.notices.jobHeld
            || decide (f.overBand ∧ j.status = .opened ∧ j.holdCount ≠ 0 ∧ j.holdCount ≤ n)
          shortImmersion := s.notices.shortImmersion || c.flags.shortImmersion
          recordQueueHigh := s.notices.recordQueueHigh || s.records.length == 39
          balanceShortfall := s.notices.balanceShortfall || decide (s.tables.balance.k < f.pickup) } }

/-! ## Zones -/

/-- A claim, of a hoist or of the pair, is granted whole at its submission when no zone of its set is another's, or else
takes nothing and waits; a release frees every zone of the claimant, and then the waiting claim is granted if it can be
(R106, R107, R113). -/
def Obligations.ClaimsAreGrantedWholeOrWait : Prop :=
  (∀ (claimant : Owner) (first last : Nat) (s t : State), claimant ≠ .none → t = submitClaim claimant first last s →
    ((∀ z : Zone, first ≤ z.num → z.num ≤ last → s.owners.get z = .none ∨ s.owners.get z = claimant) →
      (∀ z : Zone, t.owners.get z = if first ≤ z.num ∧ z.num ≤ last then claimant else s.owners.get z)
      ∧ t = { s with
        owners := t.owners
        contexts := claimContexts claimant (fun c => { c with claim := .held, state := .lowering }) s })
    ∧ ((∃ z : Zone, first ≤ z.num ∧ z.num ≤ last ∧ s.owners.get z ≠ .none ∧ s.owners.get z ≠ claimant) →
      t = { s with
        waiting := some ⟨claimant, first, last⟩
        contexts := claimContexts claimant (fun c => { c with claim := .waiting, state := .waitingZone }) s }))
  ∧ (∀ (claimant : Owner) (s t : State), claimant ≠ .none → t = releaseZones claimant s →
    (s.waiting = none → t = { s with owners := t.owners }
      ∧ ∀ z : Zone, t.owners.get z = if s.owners.get z = claimant then .none else s.owners.get z)
    ∧ (∀ (w : Owner) (first last : Nat), w ≠ .none → s.waiting = some ⟨w, first, last⟩ →
      ((∀ z : Zone, first ≤ z.num → z.num ≤ last →
          s.owners.get z = .none ∨ s.owners.get z = claimant ∨ s.owners.get z = w) →
        (∀ z : Zone, t.owners.get z = if first ≤ z.num ∧ z.num ≤ last then w
          else if s.owners.get z = claimant then .none else s.owners.get z)
        ∧ t = { s with
          owners := t.owners, waiting := none
          contexts := claimContexts w (fun c => { c with claim := .held, state := .lowering }) s })
      ∧ ((∃ z : Zone, first ≤ z.num ∧ z.num ≤ last ∧ s.owners.get z ≠ .none ∧ s.owners.get z ≠ claimant
            ∧ s.owners.get z ≠ w) →
        t = { s with owners := t.owners }
        ∧ ∀ z : Zone, t.owners.get z = if s.owners.get z = claimant then .none else s.owners.get z)))

/-- LOAD ZONE MAP, SET DROSS CEILING and SET ZONE SERVICE, each check in its order (R101 to R104). The refusal of a
service value above 1, in SET ZONE SERVICE and in a zone of LOAD ZONE MAP, is log 18 (DEDUCED from R182). -/
def Obligations.ZoneRequests : Prop :=
  (∀ (q : Req) (x : ZoneMapArgs) (s : State), exec (.loadZoneMap q x) s = .next (checked q 0xA8
    [(s.save.isSome, .busy), (decide (s.contexts.h1.state ≠ .idle ∨ s.contexts.h2.state ≠ .idle), .busy),
     ([x.z1, x.z2, x.z3, x.z4].any (fun z => decide (1 < z.inService ∨ z.floor < -1000 ∨ 5000 < z.floor
        ∨ z.ceiling < z.floor ∨ 10000 < z.ceiling)), .outOfRange),
     (decide (20000 < x.rim ∨ 2000 < x.margin ∨ 1000 < x.clearance), .outOfRange),
     (decide (x.emptyLevel < -2000 ∨ 20000 < x.emptyLevel), .outOfRange),
     (decide (x.massPerMm < 1 ∨ 65535 < x.massPerMm ∨ x.tilt < 10 ∨ 1000 < x.tilt), .outOfRange)]
    [] s { s with tables := { s.tables with
      zoneMap :=
        { zones := ⟨⟨x.z1.inService == 1, x.z1.floor, x.z1.ceiling⟩, ⟨x.z2.inService == 1, x.z2.floor, x.z2.ceiling⟩,
            ⟨x.z3.inService == 1, x.z3.floor, x.z3.ceiling⟩, ⟨x.z4.inService == 1, x.z4.floor, x.z4.ceiling⟩⟩
          rim := x.rim, margin := x.margin, clearance := x.clearance, emptyLevel := x.emptyLevel
          massPerMm := x.massPerMm, tilt := x.tilt } } }))
  ∧ (∀ (q : Req) (z : Zone) (c : Int) (s : State), exec (.setDrossCeiling q z.num c) s = .next (checked q 0xA9
    [(s.save.isSome, .busy), (decide (s.owners.get z ≠ .none), .inBath),
     (decide (c < (s.tables.zoneMap.zones.get z).floor ∨ 10000 < c), .outOfRange)]
    [] s { s with tables := { s.tables with
      zoneMap := { s.tables.zoneMap with
        zones := s.tables.zoneMap.zones.set z { s.tables.zoneMap.zones.get z with ceiling := c } } } }))
  ∧ (∀ (q : Req) (z : Zone) (v : Nat) (s : State), exec (.setZoneService q z.num v) s = .next (checked q 0xAA
    [(s.save.isSome, .busy), (decide (1 < v), .outOfRange),
     (v == 0 && anyTag (fun t => decide (t.firstZone ≤ z.num ∧ z.num ≤ t.lastZone)) s, .inUse)]
    [] s { s with tables := { s.tables with
      zoneMap := { s.tables.zoneMap with
        zones := s.tables.zoneMap.zones.set z { s.tables.zoneMap.zones.get z with inService := v == 1 } } } }))
  ∧ (∀ (q : Req) (n v : Nat) (c : Int) (s : State), n = 0 ∨ 4 < n →
    exec (.setDrossCeiling q n c) s = .next (checked q 0xA9 [(s.save.isSome, .busy), (true, .outOfRange)] [] s s)
    ∧ exec (.setZoneService q n v) s = .next (checked q 0xAA [(s.save.isSome, .busy), (true, .outOfRange)] [] s s))

/-! ## The bath -/

/-- LOAD BATH SETTINGS: its checks in order; the stale time at once on both figures; a poll due at a change from no
address to one; a pending poll and the poll timer gone at a change to none (R118, R119, R125). Two points are the model's
choice (DEDUCED, log 13): a figure that had gone stale is redated too, so it is fresh again where its new deadline has not
passed, the hold not released; and a new deadline equal to the present millisecond has not passed. That a poll made
pending takes no sequence number before it is sent is the model's choice too (log 44). -/
def Obligations.BathSettingsTakeEffect : Prop :=
  ∀ (q : Req) (x : BathArgs) (s : State) (b : BathSettings) (checks : List (Bool × Status)),
    b = { station := if x.station = 0 then none else some x.station, low := x.low, high := x.high
          hysteresis := x.hysteresis, staleTime := x.staleTime, pollInterval := x.pollInterval
          reconcile := x.reconcile } →
    checks = [(s.save.isSome, .busy),
      (s.contexts.h1.state.overKettle || s.contexts.h2.state.overKettle, .notAllowed),
      (decide (126 < x.station ∨ x.low < 3500 ∨ 5500 < x.low ∨ x.high < 3500 ∨ 5500 < x.high), .outOfRange),
      (decide (200 < x.hysteresis ∨ x.staleTime < 2 ∨ 120 < x.staleTime ∨ x.pollInterval < 1), .outOfRange),
      (decide (60 < x.pollInterval ∨ 10000000 < x.reconcile), .outOfRange),
      (decide (x.high ≤ x.low ∨ x.high < x.low + 2 * x.hysteresis), .outOfRange)] →
    (∀ st, firstFailure checks = some st → exec (.loadBathSettings q x) s = .next (answered q 0xAC st [] s s))
    ∧ (firstFailure checks = none →
      ∃ t u : State, exec (.loadBathSettings q x) s = .next { t with
          sent := t.sent ++ [.up (replyTo q 0xAC .done [] s t)] }
        ∧ u.bath.temperature = s.bath.temperature.map (fun f => { f with
            deadline := if f.time + x.staleTime * 1000 < s.now then none else some (f.time + x.staleTime * 1000) })
        ∧ u.bath.level = s.bath.level.map (fun f => { f with
            deadline := if f.time + x.staleTime * 1000 < s.now then none else some (f.time + x.staleTime * 1000) })
        ∧ ((∃ f, (s.bath.temperature = some f ∨ s.bath.level = some f) ∧ f.deadline.isSome = true
              ∧ f.time + x.staleTime * 1000 < s.now) →
            u.bath.hold = some .stale ∧ u.notices.bathHold = (s.notices.bathHold || s.bath.hold.isNone))
        ∧ (¬ (∃ f, (s.bath.temperature = some f ∨ s.bath.level = some f) ∧ f.deadline.isSome = true
              ∧ f.time + x.staleTime * 1000 < s.now) →
            u.bath.hold = s.bath.hold ∧ u.notices.bathHold = s.notices.bathHold)
        ∧ u = { s with
            sent := [], tables := { s.tables with bath := b }
            bath := { s.bath with temperature := u.bath.temperature, level := u.bath.level, hold := u.bath.hold }
            notices := { s.notices with bathHold := u.notices.bathHold } }
        ∧ (s.tables.bath.station.isSome = b.station.isSome → t = u)
        ∧ (s.tables.bath.station.isSome = true → b.station = none → t = { u with
            ports := { s.ports with k := { s.ports.k with pending := none } }
            bath := { u.bath with pollTimer := none } })
        ∧ (∀ a, s.tables.bath.station = none → b.station = some a →
            (s.ports.k.slot = none → s.ports.k.state = .opened ∨ s.ports.k.state = .faulted → t = { u with
              sent := [.down .k (madeFrame (BitVec.ofNat 8 a) 0x50 [] s)]
              seqCounter := s.seqCounter + 1
              ports := { s.ports with k := { s.ports.k with
                slot := filledSlot .k .generated (BitVec.ofNat 8 a) s.seqCounter 0x50 s } }
              bath := { u.bath with
                lastPoll := some s.now
                pollTimer := some (s.now + if s.bath.mode = .continuous then 200 else x.pollInterval * 1000) } })
            ∧ (s.ports.k.slot.isSome = true ∨ s.ports.k.state = .restarting → t = { u with
              ports := { s.ports with k := { s.ports.k with pending := some .poll } } })))

/-- The poll timer's expiry makes a poll due, sent at once or pending; a stale expiry ends the figure's deadline and sets
the hold, or turns its cause, to STALE, with BATH HOLD when it was clear (R120, R123, R125). That an expiry command whose
timer is stopped or has not run out does nothing is log 3 (DEDUCED from R77). At the event that makes the bath active or
not active the poll mode follows: to CONTINUOUS, the poll timer stops and a poll falls due; to PERIODIC, a pending poll is
kept with the timer stopped, or the timer is loaded to expire one poll interval after the last poll, or a poll falls due
at once where that moment has passed or no poll has been sent (R121; that moment itself counts as passed: log 21). That
a poll made pending takes no sequence number before it is sent is the model's choice (log 44). -/
def Obligations.BathTimersExpireAndThePollModeFollows : Prop :=
  (∀ s : State, reachedBy s.bath.pollTimer s.now →
    (s.tables.bath.station = none → exec .pollTimerExpiry s = .next { s with
      sent := [], bath := { s.bath with pollTimer := none } })
    ∧ (∀ a, s.tables.bath.station = some a →
      (s.ports.k.slot = none → s.ports.k.state = .opened ∨ s.ports.k.state = .faulted →
        exec .pollTimerExpiry s = .next { s with
          sent := [.down .k (madeFrame (BitVec.ofNat 8 a) 0x50 [] s)]
          seqCounter := s.seqCounter + 1
          ports := { s.ports with k := { s.ports.k with
            slot := filledSlot .k .generated (BitVec.ofNat 8 a) s.seqCounter 0x50 s } }
          bath := { s.bath with
            lastPoll := some s.now
            pollTimer := some
              (s.now + if s.bath.mode = .continuous then 200 else s.tables.bath.pollInterval * 1000) } })
      ∧ (s.ports.k.slot.isSome = true ∨ s.ports.k.state = .restarting → exec .pollTimerExpiry s = .next { s with
        sent := [], ports := { s.ports with k := { s.ports.k with pending := some .poll } }
        bath := { s.bath with pollTimer := none } })))
  ∧ (∀ s : State, ¬ reachedBy s.bath.pollTimer s.now → exec .pollTimerExpiry s = .next { s with sent := [] })
  ∧ (∀ (fig : BathFigure) (s : State), ¬ reachedBy ((s.bath.figure fig).bind Figure.deadline) s.now →
    exec (.staleExpiry fig) s = .next { s with sent := [] })
  ∧ (∀ (f : Figure) (s : State), s.bath.temperature = some f → reachedBy f.deadline s.now →
    exec (.staleExpiry .temperature) s = .next { s with
      sent := [], bath := { s.bath with temperature := some { f with deadline := none }, hold := some .stale }
      notices := { s.notices with bathHold := s.notices.bathHold || s.bath.hold.isNone } })
  ∧ (∀ (f : Figure) (s : State), s.bath.level = some f → reachedBy f.deadline s.now →
    exec (.staleExpiry .level) s = .next { s with
      sent := [], bath := { s.bath with level := some { f with deadline := none }, hold := some .stale }
      notices := { s.notices with bathHold := s.notices.bathHold || s.bath.hold.isNone } })
  ∧ (∀ s : State, (bathActive s = true ↔ s.bath.mode = .continuous) → syncPollMode s = s)
  ∧ (∀ s : State, bathActive s = true → s.bath.mode = .periodic →
    (s.tables.bath.station = none →
      syncPollMode s = { s with bath := { s.bath with mode := .continuous, pollTimer := none } })
    ∧ (∀ a, s.tables.bath.station = some a →
      (s.ports.k.slot = none → s.ports.k.state = .opened ∨ s.ports.k.state = .faulted → syncPollMode s = { s with
        sent := s.sent ++ [.down .k (madeFrame (BitVec.ofNat 8 a) 0x50 [] s)]
        seqCounter := s.seqCounter + 1
        ports := { s.ports with k := { s.ports.k with
          slot := filledSlot .k .generated (BitVec.ofNat 8 a) s.seqCounter 0x50 s } }
        bath := { s.bath with mode := .continuous, lastPoll := some s.now, pollTimer := some (s.now + 200) } })
      ∧ (s.ports.k.slot.isSome = true ∨ s.ports.k.state = .restarting → syncPollMode s = { s with
        ports := { s.ports with k := { s.ports.k with pending := some .poll } }
        bath := { s.bath with mode := .continuous, pollTimer := none } })))
  ∧ (∀ s : State, bathActive s = false → s.bath.mode = .continuous →
    (s.tables.bath.station = none ∨ s.ports.k.pending.isSome = true →
      syncPollMode s = { s with bath := { s.bath with mode := .periodic, pollTimer := none } })
    ∧ (∀ a, s.tables.bath.station = some a → s.ports.k.pending = none →
      (∀ l, s.bath.lastPoll = some l → s.now < l + s.tables.bath.pollInterval * 1000 → syncPollMode s = { s with
        bath := { s.bath with
          mode := .periodic, pollTimer := some (l + s.tables.bath.pollInterval * 1000) } })
      ∧ ((∀ l, s.bath.lastPoll = some l → l + s.tables.bath.pollInterval * 1000 ≤ s.now) →
        (s.ports.k.slot = none → s.ports.k.state = .opened ∨ s.ports.k.state = .faulted → syncPollMode s = { s with
          sent := s.sent ++ [.down .k (madeFrame (BitVec.ofNat 8 a) 0x50 [] s)]
          seqCounter := s.seqCounter + 1
          ports := { s.ports with k := { s.ports.k with
            slot := filledSlot .k .generated (BitVec.ofNat 8 a) s.seqCounter 0x50 s } }
          bath := { s.bath with
            mode := .periodic, lastPoll := some s.now
            pollTimer := some (s.now + s.tables.bath.pollInterval * 1000) } })
        ∧ (s.ports.k.slot.isSome = true ∨ s.ports.k.state = .restarting → syncPollMode s = { s with
          ports := { s.ports with k := { s.ports.k with pending := some .poll } }
          bath := { s.bath with mode := .periodic, pollTimer := none } }))))

/-- A bath sample replaces the valid figures, counts temperatures outside the window, sets the hold at the fourth in a
row, releases it well inside the window with both figures fresh, and works out the reconciliation of a quiet level
(R122, R124, R126, R128). -/
def Obligations.BathSamplesHoldAndRelease : Prop :=
  ∀ (r : BathReading) (s t : State) (x : BathSettings) (lvl out rel quiet : Bool) (n : Nat) (cause : Option HoldCause),
    t = takeBathSample r s → x = s.tables.bath →
    lvl = (r.levelValid && decide (-2000 ≤ r.level ∧ r.level ≤ 20000)) →
    out = (r.tempValid && !decide ((x.low : Int) ≤ r.temperature ∧ r.temperature ≤ x.high)) →
    n = (if out then min 255 (s.bath.outCount + 1) else if r.tempValid then 0 else s.bath.outCount) →
    cause = (if out ∧ 4 ≤ n then some (if r.temperature < x.low then .low else .high) else s.bath.hold) →
    rel = (cause.isSome && r.tempValid
      && decide ((x.low : Int) + x.hysteresis ≤ r.temperature ∧ r.temperature ≤ (x.high : Int) - x.hysteresis)
      && (lvl || s.bath.level.any (fun f => f.deadline.any (fun d => s.now ≤ d)))) →
    quiet = (lvl && !(s.contexts.h1.state ∈ [.entering, .immersed, .withdrawing, .draining])
      && !(s.contexts.h2.state ∈ [.entering, .immersed, .withdrawing, .draining])) →
    t.bath.temperature = (if r.tempValid then some ⟨r.temperature, s.now, some (s.now + x.staleTime * 1000)⟩
      else s.bath.temperature)
    ∧ t.bath.level = (if lvl then some ⟨r.level, s.now, some (s.now + x.staleTime * 1000)⟩ else s.bath.level)
    ∧ t.bath.outCount = n ∧ t.bath.hold = (if rel then none else cause)
    ∧ (∀ implied d, implied = (r.level - s.tables.zoneMap.emptyLevel).toNat * s.tables.zoneMap.massPerMm →
      d = max (-2000000000) (min 2000000000 ((s.tables.balance.k : Int) - implied)) →
      t.bath.quiet = (if quiet then some ⟨r.level, implied, s.now, d⟩ else s.bath.quiet)
      ∧ t.notices = { s.notices with
        bathHold := s.notices.bathHold || (s.bath.hold.isNone && cause.isSome)
        bathReleased := s.notices.bathReleased || rel
        reconcileExceeded := s.notices.reconcileExceeded || (quiet && decide (x.reconcile < d.natAbs)
          && s.bath.quiet.all (fun y => decide (y.difference.natAbs ≤ x.reconcile))) })
    ∧ t = { s with
      notices := t.notices
      bath := { s.bath with
        temperature := t.bath.temperature, level := t.bath.level, outCount := n, hold := t.bath.hold
        quiet := t.bath.quiet } }

/-! ## Jobs, the kettle balance and the records -/

/-- OPEN JOB, SET JOB BAND, RESUME JOB, CLOSE JOB and RELEASE JOB, each check in its order (R131 to R136). -/
def Obligations.JobRequests : Prop :=
  (∀ (q : Req) (n lo hi hold : Nat) (s : State), exec (.openJob q n lo hi hold) s = .next (checked q 0xB0
    [(s.save.isSome, .busy),
     (decide (n < 1 ∨ 999999 < n ∨ 999 < lo ∨ 999 < hi ∨ hi < lo ∨ 255 < hold), .outOfRange),
     ((findJob n s).isSome, .duplicate), (decide (96 ≤ s.tables.jobs.length), .full)]
    [] s { s with tables := { s.tables with
      jobs := s.tables.jobs ++ [⟨n, lo, hi, hold, .opened, 0, 0, 0, 0, 0, 0⟩] } }))
  ∧ (∀ (q : Req) (n lo hi hold : Nat) (s : State), exec (.setJobBand q n lo hi hold) s = .next (checked q 0xB1
    [(s.save.isSome, .busy), (decide (999 < lo ∨ 999 < hi ∨ hi < lo ∨ 255 < hold), .outOfRange),
     ((findJob n s).isNone, .notFound), ((findJob n s).any (fun j => j.status == .closed), .notAllowed)]
    [] s { s with tables := { s.tables with
      jobs := s.tables.jobs.map
        (fun j => if j.number = n then { j with rMin := lo, rMax := hi, holdCount := hold } else j) } }))
  ∧ (∀ (q : Req) (n : Nat) (s : State), exec (.resumeJob q n) s = .next (checked q 0xB2
    [(s.save.isSome, .busy), ((findJob n s).isNone, .notFound),
     ((findJob n s).any (fun j => j.status == .closed), .notAllowed)]
    [] s { s with tables := { s.tables with
      jobs := s.tables.jobs.map (fun j => if j.number = n then { j with status := .opened, overCount := 0 } else j) } }))
  ∧ (∀ (q : Req) (n : Nat) (s : State), exec (.closeJob q n) s = .next (checked q 0xB3
    [(s.save.isSome, .busy), ((findJob n s).isNone, .notFound), (anyTag (fun t => t.job == n) s, .inUse)]
    [] s { s with tables := { s.tables with
      jobs := s.tables.jobs.map (fun j => if j.number = n then { j with status := .closed } else j) } }))
  ∧ (∀ (q : Req) (n : Nat) (s : State), exec (.releaseJob q n) s = .next (checked q 0xB4
    [(s.save.isSome, .busy), ((findJob n s).isNone, .notFound),
     ((findJob n s).any (fun j => j.status != .closed), .notAllowed)]
    [] s { s with tables := { s.tables with jobs := s.tables.jobs.filter (fun j => j.number != n) } }))

/-- ZINC ADDED raises K and additions by the mass, or is refused (R139). -/
def Obligations.ZincAddedRaisesTheBalance : Prop :=
  ∀ (q : Req) (m : Nat) (s : State), exec (.zincAdded q m) s = .next (checked q 0xB6
    [(s.save.isSome, .busy), (decide (m = 0 ∨ 1000000 < m), .outOfRange),
     (decide (999999999 < s.tables.balance.k + m), .outOfRange)]
    [] s { s with tables := { s.tables with
      balance := { s.tables.balance with
        k := s.tables.balance.k + m, additions := s.tables.balance.additions + m } } })

/-- DROSS REMOVED and ASH REMOVED have one effect: removals rise by the full mass, and K falls by it, the excess over K
going to shortfall with BALANCE SHORTFALL (R140). -/
def Obligations.RemovalsLowerTheBalance : Prop :=
  ∀ (q : Req) (m : Nat) (s s' : State),
    (m ≤ s.tables.balance.k → s' = { s with tables := { s.tables with
      balance := { s.tables.balance with
        removals := s.tables.balance.removals + m, k := s.tables.balance.k - m } } }) →
    (s.tables.balance.k < m → s' = { s with
      tables := { s.tables with
        balance := { s.tables.balance with
          removals := s.tables.balance.removals + m, k := 0
          shortfall := s.tables.balance.shortfall + (m - s.tables.balance.k) } }
      notices := { s.notices with balanceShortfall := true } }) →
    exec (.drossRemoved q m) s = .next (checked q 0xB7
      [(s.save.isSome, .busy), (decide (m = 0 ∨ 1000000 < m), .outOfRange)] [] s s')
    ∧ exec (.ashRemoved q m) s = .next (checked q 0xB8
      [(s.save.isSome, .busy), (decide (m = 0 ∨ 1000000 < m), .outOfRange)] [] s s')

/-- SET BALANCE makes K and the base the value and every total 0, and leaves D as it is (R141). SET BALANCE TO LEVEL does
so with the implied mass of the last quiet level sample, if it is recent enough and not too large (R142). -/
def Obligations.SetBalanceStartsAfresh : Prop :=
  (∀ (q : Req) (v : Nat) (s : State), exec (.setBalance q v) s = .next (checked q 0xB9
    [(s.save.isSome, .busy), (decide (999999999 < v), .outOfRange)]
    [] s { s with tables := { s.tables with balance := ⟨v, v, 0, 0, 0, 0, 0⟩ } }))
  ∧ (∀ (q : Req) (x : QuietSample) (s : State), s.bath.quiet = some x →
    exec (.setBalanceToLevel q) s = .next (checked q 0xBA
      [(s.save.isSome, .busy), (decide (s.tables.bath.staleTime * 1000 < s.now - x.time), .notAllowed),
       (decide (999999999 < x.implied), .outOfRange)]
      [] s { s with tables := { s.tables with balance := ⟨x.implied, x.implied, 0, 0, 0, 0, 0⟩ } }))
  ∧ (∀ (q : Req) (s : State), s.bath.quiet = none → exec (.setBalanceToLevel q) s
    = .next (checked q 0xBA [(s.save.isSome, .busy), (true, .notAllowed)] [] s s))

/-- PEEK RECORD and TAKE RECORD answer with the 59 bytes of the oldest record, TAKE RECORD removing it, and are refused
NOT FOUND on an empty queue, in a save too (R152, R183). The 59 bytes hold the fields at the places of R183's table, a
field that is absent sent as zeros; W_dry, S, the masses and P stand in three bytes, signed ones in two's complement. That
bit 7 of the presence byte and bits 15 to 10 of the flag bytes are 0 is the model's choice (log 40). -/
def Obligations.RecordsAreReadOldestFirst : Prop :=
  (∀ (q : Req) (r : Record) (rest : List Record) (s : State), s.records = r :: rest →
    exec (.peekRecord q) s = .next (answered q 0xBC .done (recordBytes r) s s)
    ∧ exec (.takeRecord q) s = .next (answered q 0xBD .done (recordBytes r) s { s with records := rest }))
  ∧ (∀ (q : Req) (s : State), s.records = [] →
    exec (.peekRecord q) s = .next (answered q 0xBC .notFound [] s s)
    ∧ exec (.takeRecord q) s = .next (answered q 0xBD .notFound [] s s))
  ∧ (∀ (r : Record) (b : List Byte) (field : Nat → Nat → List Byte) (later : Option Nat → List Byte), b = recordBytes r →
    (∀ i n, field i n = (b.drop i).take n) →
    (∀ x, later x = match x with
      | some x => beBytes 2 (min 65535 ((x - r.tTare) / 100))
      | none => [0, 0]) →
    b.length = 59 ∧ field 0 2 = beBytes 2 r.seq.toNat
    ∧ field 2 1 = [BitVec.ofNat 8 ((match r.outcome with
        | .normal => 0
        | .unweighed => 1
        | .aborted => 2) + 4 * (match r.hoist with
        | .one .h1 => 1
        | .one .h2 => 2
        | .both => 3))]
    ∧ field 3 1 = beBytes 1 (r.token.getD 0) ∧ field 4 3 = beBytes 3 r.job ∧ field 7 2 = beBytes 2 r.jig
    ∧ field 9 1 = beBytes 1 r.profile
    ∧ field 10 1 = [BitVec.ofNat 8 ((if r.tEntry.isSome then 1 else 0) + (if r.tImmersion.isSome then 2 else 0)
        + (if r.tWithdrawal.isSome then 4 else 0) + (if r.tDrain.isSome then 8 else 0)
        + (if r.bath.isSome then 16 else 0) + (if r.wet.isSome then 32 else 0) + (if r.ratio.isSome then 64 else 0))]
    ∧ field 11 2 = beBytes 2 ((if r.flags.shortImmersion then 1 else 0) + (if r.flags.reImmersed then 2 else 0)
        + (if r.flags.float then 4 else 0) + (if r.flags.grounded then 8 else 0) + (if r.negPickup then 16 else 0)
        + (if r.underBand then 32 else 0) + (if r.overBand then 64 else 0) + (if r.flags.noSteel then 128 else 0)
        + (if r.flags.overloadSeen then 256 else 0) + (if r.flags.noContact then 512 else 0))
    ∧ field 13 6 = beBytes 6 r.tTare ∧ field 19 2 = later r.tEntry ∧ field 21 2 = later r.tImmersion
    ∧ field 23 2 = later r.tWithdrawal ∧ field 25 2 = later r.tDrain ∧ field 27 2 = later (some r.tClose)
    ∧ field 29 3 = beInt 3 r.wDry ∧ field 32 3 = beBytes 3 r.sMass
    ∧ field 35 9 = (match r.bath with
      | some x => beInt 3 x.aExp ++ beInt 3 x.aMin ++ beInt 3 x.aMax
      | none => List.replicate 9 0)
    ∧ field 44 11 = (match r.wet with
      | some x => beInt 3 x.wWet ++ beBytes 3 x.pickup ++ beBytes 2 x.jigShare ++ beBytes 3 x.workShare
      | none => List.replicate 11 0)
    ∧ field 55 4 = beBytes 4 (r.ratio.getD 0 * 1048576 + (match r.wet with
      | some x => x.rMin * 1024 + x.rMax
      | none => 0)))

/-! ## Notices -/

/-- READ NOTICES, CLEAR NOTICES and SET NOTICE LEVELS (R160 to R162, R183). CLEAR NOTICES clears the kinds named but PORT
FAULT while a port is FAULTED, and lists the kinds still set. The READ NOTICES clause fixes bits 6 to 2 of a group byte
at 0, which R183 does not give: that is the model's choice (log 36). -/
def Obligations.NoticeRequests : Prop :=
  (∀ (q : Req) (s : State), exec (.readNotices q) s = .next (answered q 0x94 .done
    (BitVec.ofNat 8 s.notices.kinds.length :: s.notices.kinds.map (fun n => BitVec.ofNat 8 n.num)
      ++ [Group.dip, .queue, .link, .bath, .device].map (fun g =>
        BitVec.ofNat 8 ((if (s.tables.groups.get g).enabled then 128 else 0) + (s.tables.groups.get g).level % 4))
      ++ [BitVec.ofNat 8 (attention s)]) s s))
  ∧ (∀ (q : Req) (ks : List Nat) (s : State), ks.length ≤ 19 → (∀ k ∈ ks, 1 ≤ k ∧ k ≤ 19) →
    ∃ f : NoticeFlags, exec (.clearNotices q ks) s = .next (answered q 0x95 .done
        (BitVec.ofNat 8 f.kinds.length :: f.kinds.map (fun n => BitVec.ofNat 8 n.num)) s { s with notices := f })
      ∧ ∀ n : Notice, f.get n = (s.notices.get n && !(decide (n.num ∈ ks)
          && !(n == .portFault && [Port.a, Port.b, Port.k].any (fun p => (s.ports.get p).state == .faulted)))))
  ∧ (∀ (q : Req) (ks : List Nat) (s : State), ks.length ≤ 19 → (∃ k ∈ ks, k < 1 ∨ 19 < k) →
    exec (.clearNotices q ks) s = .next (answered q 0x95 .outOfRange [] s s))
  ∧ (∀ (q : Req) (g : Group) (n level enable : Nat) (s : State),
    (n, g) ∈ [(1, Group.dip), (2, .queue), (3, .link), (4, .bath), (5, .device)] →
    exec (.setNoticeLevels q n level enable) s = .next (checked q 0x96
      [(s.save.isSome, .busy), (decide (3 < level), .outOfRange), (decide (1 < enable), .outOfRange)]
      [] s { s with tables := { s.tables with
        groups := s.tables.groups.set g ⟨level, enable == 1⟩ } }))
  ∧ (∀ (q : Req) (n level enable : Nat) (s : State), n = 0 ∨ 5 < n →
    exec (.setNoticeLevels q n level enable) s
      = .next (checked q 0x96 [(s.save.isSome, .busy), (true, .outOfRange)] [] s s))

/-- The attention value is the highest contribution of any kind that is set, 0 when none contributes, and with the stored
tables in range at most 4 (R157, R158). -/
def Obligations.AttentionIsTheHighestContribution : Prop :=
  ∀ s : State, (∀ n : Notice, contribution s.tables.groups s.notices n ≤ attention s)
    ∧ (attention s = 0 ∨ ∃ n : Notice, contribution s.tables.groups s.notices n = attention s)
    ∧ (s.tables.ok = true → attention s ≤ 4)

/-! ## Readings -/

/-- Each reading answers the page of its items that the request names, in a save too, or the refusal of its rule, and
changes nothing (R28, R40, R59, R63, R67, R99, R109, R129, R137, R143, R153, R183), but that READ STATUS clears UPSTREAM
DAMAGED after its data has been taken, and READ PORT STATUS the error flags of an OPEN port; a page that is refused clears
nothing (R14, R168, R170; log 19). Which bytes stand on a page rests on the items of ReadingsHoldTheItemsOfTheirRules, and
so on the model's choices that it names, of item boundaries (log 14), of the lists of hoists (logs 15, 42), of READ
CONTEXT's numbers (log 16), of a claimant's (log 17) and of its other points (logs 28, 29, 31 to 33, 35, 41, 43) among them. -/
def Obligations.ReadingsAnswerTheirPage : Prop :=
  (∀ (q : Req) (page : Nat) (s : State),
    exec (.readMotion q page) s = .next (paged q 0x8C page (motionItems .h1 s ++ motionItems .h2 s) s s)
    ∧ exec (.readZones q page) s = .next (paged q 0xAB page (arbiterItems s) s s)
    ∧ exec (.readBath q page) s = .next (paged q 0xAD page (bathItems s) s s)
    ∧ exec (.readBalance q page) s = .next (paged q 0xBB page (balanceItems s) s s)
    ∧ exec (.readQueue q page) s = .next (paged q 0xBE page (queueItems s) s s))
  ∧ (∀ (q : Req) (h : Hoist) (page : Nat) (s : State),
    exec (.readWeight q h.num page) s = .next (paged q 0x93 page (weightItems h s) s s)
    ∧ exec (.readContext q h.num page) s = .next (paged q 0xA6 page (contextItems h s) s s))
  ∧ (∀ (q : Req) (n page : Nat) (s : State), n = 0 ∨ 2 < n →
    exec (.readWeight q n page) s = .next (answered q 0x93 .outOfRange [] s s)
    ∧ exec (.readContext q n page) s = .next (answered q 0xA6 .outOfRange [] s s))
  ∧ (∀ (q : Req) (n page : Nat) (s : State),
    (∀ e c, s.tables.traps[n - 1]? = some e → s.trapHits[n - 1]? = some c → 1 ≤ n →
      exec (.readTrap q n page) s = .next (paged q 0x89 page (trapItems e c) s s))
    ∧ (n = 0 ∨ 8 < n → exec (.readTrap q n page) s = .next (answered q 0x89 .outOfRange [] s s)))
  ∧ (∀ (q : Req) (n page : Nat) (s : State),
    (∀ x, findProfile n s = some x → exec (.readProfile q n page) s = .next (paged q 0x9A page
      (profileItems x ++ [hoistsItem ([Hoist.h1, .h2].filter (fun h =>
        (s.contexts.get h).tag.any (fun t => t.profile == n)))]) s s))
    ∧ (1 ≤ n → n ≤ 16 → findProfile n s = none →
      exec (.readProfile q n page) s = .next (answered q 0x9A .notFound [] s s))
    ∧ (n = 0 ∨ 16 < n → exec (.readProfile q n page) s = .next (answered q 0x9A .outOfRange [] s s)))
  ∧ (∀ (q : Req) (n page : Nat) (s : State),
    (∀ j, findJig n s = some j → exec (.readJig q n page) s = .next (paged q 0xA0 page (jigItems j s) s s))
    ∧ (findJig n s = none → exec (.readJig q n page) s = .next (answered q 0xA0 .notFound [] s s))
    ∧ (∀ j, findJob n s = some j → exec (.readJob q n page) s = .next (paged q 0xB5 page (jobItems j s) s s))
    ∧ (findJob n s = none → exec (.readJob q n page) s = .next (answered q 0xB5 .notFound [] s s)))
  ∧ (∀ (q : Req) (page : Nat) (s : State),
    exec (.readStatus q page) s = .next (paged q 0x80 page (statusItems s) s { s with upstreamDamaged := false }))
  ∧ (∀ (q : Req) (p : Port) (page : Nat) (s : State),
    exec (.readPortStatus q (portNum p) page) s = .next (paged q 0x84 page (portItems p s) s { s with
      ports := if (s.ports.get p).state = .opened then s.ports.set p { s.ports.get p with
          errDamaged := false, errStray := false, errTimeout := false }
        else s.ports }))
  ∧ (∀ (q : Req) (n page : Nat) (s : State), n = 0 ∨ 3 < n →
    exec (.readPortStatus q n page) s = .next (answered q 0x84 .outOfRange [] s s))

/-- The items of each reading, in the order of its rule (R14, R28, R40, R59, R63, R67, R99, R109, R129, R137, R143, R153,
R168), in the widths of R182, an optional item behind its presence byte (R183), and enumerations numbered from 0 in the
order of their rules (R182). The model's choices, where the spec gives no form: item boundaries (log 14), lists of hoists
(log 15), READ CONTEXT's order and numbers (log 16), claimants (log 17), the dip flags (log 28), the dwell (log 29), the
bottom and top of a paired context (log 31), widths that R182 does not list (log 32), a yes or no byte that is itself a
presence byte (log 33), an over-range byte of 0 where there is no converted mass (log 35), the order of a port's error flags
(log 41), a list's count byte that is itself the indication or the number before the list (log 42), and 1 for overload active and for
the service line asserted (log 43). -/
def Obligations.ReadingsHoldTheItemsOfTheirRules : Prop :=
  ∀ (flag : Bool → Item) (num : Nat → Item) (left : Nat → Option Nat → Item) (stamp : Option Nat → Item)
    (mass : Option Int → Item) (hold : Item) (quiet dif : Item) (s : State),
    (∀ b, flag b = [if b then 1 else 0]) → (∀ n, num n = beBytes 1 n) →
    (∀ now d, left now d = optionalItem 4 (d.map (fun d => beBytes 4 (d - now)))) →
    (∀ d, stamp d = optionalItem 6 (d.map (beBytes 6))) → (∀ x, mass x = optionalItem 3 (x.map (beInt 3))) →
    hold = optionalItem 1 (s.bath.hold.map (fun c => num c.num)) →
    quiet = optionalItem 12 (s.bath.quiet.map (fun q =>
      beInt 2 q.level ++ beBytes 4 q.implied ++ beBytes 6 (s.now - q.time))) →
    dif = optionalItem 4 (s.bath.quiet.map (fun q => beInt 4 q.difference)) →
    statusItems s = [beBytes 6 s.now, num (if s.restartCause = .powerOn then 0 else 1), flag s.serviceAsserted,
        num (if s.storeState = .good then 0 else 1), flag s.tables.calibrationLock, flag s.upstreamDamaged,
        num s.tables.ownAddress, num s.ports.a.state.num ++ num s.ports.b.state.num ++ num s.ports.k.state.num, hold,
        num s.contexts.h1.state.num ++ num s.contexts.h2.state.num, left s.now (s.save.map Save.deadline)]
    ∧ (∀ (p : Port) (u : PortUnit) (x : PortSettings), u = s.ports.get p → x = s.tables.ports.get p →
      portItems p s = [num u.state.num, flag u.errDamaged ++ flag u.errStray ++ flag u.errTimeout,
        beBytes 4 (u.recovery.elim 0 (fun d => d - s.now)), num x.replyTimeout ++ beBytes 2 x.recoveryTime,
        num x.window.base ++ num x.window.limit, flag (x.strictStop && p != .k),
        optionalItem 4 (u.slot.map (fun sl => [if sl.origin = .generated then 1 else 0, sl.dest, sl.seq, sl.code])),
        optionalItem 1 (u.pending.map (fun g => [if g = .poll then 0x50 else 0x31]))])
    ∧ (∀ (e : TrapEntry) (hits : Nat), trapItems e hits = [flag e.enabled, [e.destValue], [e.destMask], [e.codeValue],
        [e.codeMask], [e.firstValue], [e.firstMask], num (if e.condition = .always then 0 else 1),
        num (if e.action = .note then 0 else 1), beBytes 2 hits])
    ∧ (∀ (h : Hoist) (m : HoistMotion) (x : HoistSettings), m = s.motion.get h → x = s.tables.hoists.get h →
      motionItems h s = [num m.requested.hoistDir.num ++ beBytes 2 m.requested.hoistSpeed,
        num m.requested.travelDir.num ++ beBytes 2 m.requested.travelSpeed,
        num m.applied.hoistDir.num ++ beBytes 2 m.applied.hoistSpeed,
        num m.applied.travelDir.num ++ beBytes 2 m.applied.travelSpeed,
        num (governingNum m.govHoist), num (governingNum m.govTravel), num m.sender.num, left s.now m.commandTimer,
        flag ((s.ports.get h.port).pending == some .commandStop), beBytes 2 m.cap,
        num (x.station.getD 0) ++ beBytes 2 x.ratedUp ++ beBytes 2 x.ratedDown ++ beBytes 2 x.ratedTravel
          ++ beBytes 2 x.creep ++ beInt 2 x.offset ++ beBytes 2 x.commandTimeout])
    ∧ (∀ (h : Hoist) (c : Channel) (cal : Option CalRecord), c = s.channels.get h → cal = s.tables.calibration.get h →
      weightItems h s = [num (if cal = none then 0 else if c.filtered = none then 1 else 2), flag s.tables.calibrationLock,
        optionalItem 18 (cal.map (fun r => beInt 3 r.zero ++ beBytes 2 r.gain ++ beBytes 2 r.trackRange
          ++ beBytes 2 r.zeroBand ++ num r.shift ++ beBytes 2 r.settleBand ++ num r.settleCount
          ++ beBytes 3 r.overThreshold ++ beBytes 2 r.overHyst)),
        mass c.zero, optionalItem 4 (c.block.map (fun b => beInt 3 b.count ++ flag b.loadValid)), mass c.mass,
        flag c.overRange, mass c.filtered, num c.settle, flag (channelSettled h s), flag c.overload,
        optionalItem 1 (c.block.map (fun b => flag b.moving)),
        optionalItem 8 (c.height.map (fun x => beInt 2 x.height ++ beBytes 6 x.time))])
    ∧ (∀ x : Profile, profileItems x = [x.approachSpeed, x.entrySpeed, x.withdrawSpeed, x.drainSpeed, x.coverDepth,
        x.minDwell, x.drainDwell, x.weighTimeout, x.buoyancy, x.floatMargin, x.groundFraction].map (beBytes 2))
    ∧ (∀ j : Jig, ∃ hs, jigItems j s = [beBytes 3 j.tare, beBytes 2 j.allowance, beBytes 2 j.dips, beBytes 4 j.zinc,
          flag (j.status == .inService), hoistsItem hs]
        ∧ hs = [Hoist.h1, .h2].filter (fun h => hoistUsesJig h j.id s))
    ∧ (∀ j : Job, ∃ hs, jobItems j s = [beBytes 2 j.rMin, beBytes 2 j.rMax, num j.holdCount, num j.status.num,
          beBytes 2 j.dips, beBytes 4 j.steel, beBytes 4 j.pickup, beBytes 2 j.underCount, beBytes 2 j.overCount,
          beBytes 2 j.unweighed, hoistsItem hs]
        ∧ hs = [Hoist.h1, .h2].filter (fun h => (s.contexts.get h).tag.any (fun t => t.job == j.number)))
    ∧ (∀ (h : Hoist) (c : Context), c = s.contexts.get h →
      contextItems h s = [num c.state.num,
        optionalItem 14 (c.tag.map (fun x => num x.hoist ++ beBytes 3 x.job ++ beBytes 2 x.jig ++ num x.profile
          ++ beBytes 2 x.loadDepth ++ beBytes 2 x.workHeight ++ num x.firstZone ++ num x.lastZone ++ num x.token)),
        num c.pair.num, flag c.permit, flag c.queueWait, num c.claim.num, flag c.reserved,
        mass c.wDry, optionalItem 3 (c.sMass.map (beBytes 3)), mass c.aExp, mass c.aMin, mass c.aMax,
        flag c.floatLatched, flag c.grounded,
        beBytes 2 ((if c.flags.shortImmersion then 1 else 0) + (if c.flags.reImmersed then 2 else 0)
          + (if c.flags.float then 4 else 0) + (if c.flags.grounded then 8 else 0) + (if c.flags.noSteel then 128 else 0)
          + (if c.flags.overloadSeen then 256 else 0) + (if c.flags.noContact then 512 else 0)),
        stamp c.tTare, stamp c.tEntry, stamp c.tImmersion, stamp c.tWithdrawal, stamp c.tDrain,
        flag (c.dwellDeadline.any (fun d => d ≤ s.now))
          ++ left s.now (c.dwellDeadline.filter (fun d => decide (s.now < d))),
        left s.now c.drainTimer, left s.now c.weighTimer, left s.now c.jigWeigh.timer,
        mass (ownBottom h s), mass (ownTop h s), optionalItem 2 (s.bath.level.map (fun f => beInt 2 f.value)),
        beInt 2 (s.tables.zoneMap.rim + s.tables.zoneMap.margin),
        beBytes 2 c.jigWeigh.jig ++ num c.jigWeigh.result.num ++ optionalItem 3
          (if c.jigWeigh.result = .done ∨ c.jigWeigh.result = .tareClamped then some (beBytes 3 c.jigWeigh.tare)
            else none)])
    ∧ (∀ (m : ZoneMap) (zone : Zone → List Item), m = s.tables.zoneMap →
      (∀ z, zone z = [flag (m.zones.get z).inService, beInt 2 (m.zones.get z).floor, beInt 2 (m.zones.get z).ceiling]) →
      arbiterItems s = [num s.owners.z1.num, num s.owners.z2.num, num s.owners.z3.num, num s.owners.z4.num,
          optionalItem 3 (s.waiting.map (fun w => num w.claimant.num ++ num w.first ++ num w.last))]
        ++ zone .z1 ++ zone .z2 ++ zone .z3 ++ zone .z4
        ++ [beBytes 2 m.rim, beBytes 2 m.margin, beBytes 2 m.clearance, beInt 2 m.emptyLevel, beBytes 2 m.massPerMm,
          beBytes 2 m.tilt, beBytes 2 (m.rim + m.margin)])
    ∧ (∀ (x : BathSettings) (fig : Option Figure → Item), x = s.tables.bath →
      (∀ f, fig f = optionalItem 9 (f.map (fun f => beInt 2 f.value ++ beBytes 6 (s.now - f.time)
        ++ flag (f.deadline.any (fun d => s.now ≤ d))))) →
      bathItems s = [num (x.station.getD 0), beBytes 2 x.low, beBytes 2 x.high, beBytes 2 x.hysteresis, num x.staleTime,
        num x.pollInterval, beBytes 4 x.reconcile, num s.bath.mode.num, left s.now s.bath.pollTimer,
        flag (s.ports.k.pending == some .poll), stamp s.bath.lastPoll, fig s.bath.temperature, fig s.bath.level,
        num s.bath.outCount, hold, flag (s.contexts.h1.state.overKettle || s.contexts.h2.state.overKettle), quiet, dif])
    ∧ (∀ b : Balance, b = s.tables.balance → balanceItems s = [beBytes 4 b.k, beBytes 4 b.base, beBytes 8 b.additions,
        beBytes 8 b.removals, beBytes 8 b.pickups, beBytes 8 b.shortfall, beBytes 4 b.unweighed, quiet, dif])
    ∧ (∃ hs : List Nat, queueItems s = [num s.records.length, num (reservedPlaces s) ++ hs.map (BitVec.ofNat 8),
          num (48 - (s.records.length + reservedPlaces s)),
          optionalItem 2 (s.records.head?.map (fun r => beBytes 2 r.seq.toNat)), beBytes 2 s.nextRecord.toNat]
        ∧ hs = (if s.contexts.h1.reserved ∧ s.contexts.h2.reserved then
            (if s.contexts.h1.pair = .paired ∧ s.contexts.h2.pair = .paired then [3] else [1, 2])
          else if s.contexts.h1.reserved then [1] else if s.contexts.h2.reserved then [2] else [])
        ∧ reservedPlaces s = hs.length)
    ∧ [PortState.opened, .faulted, .isolated, .restarting].map PortState.num = [0, 1, 2, 3]
    ∧ [HoistDir.stop, .up, .down].map HoistDir.num = [0, 1, 2]
    ∧ [TravelDir.stop, .fore, .aft].map TravelDir.num = [0, 1, 2]
    ∧ [none, some LimitSource.fault, some .operator, some .rated, some .state, some .zone, some .bath, some .dross,
        some .float, some .grounded, some .overload, some .tilt].map governingNum = List.range 12
    ∧ [MotionSender.lineController, .timeoutStop, .isolationStop].map MotionSender.num = [0, 1, 2]
    ∧ [DipState.idle, .jigWeigh, .tagged, .ready, .waitingZone, .lowering, .entering, .immersed, .withdrawing, .draining,
        .weighing, .abandoned].map DipState.num = List.range 12
    ∧ [PairLink.none, .partnerPending, .paired].map PairLink.num = [0, 1, 2]
    ∧ [Claim.none, .waiting, .held].map Claim.num = [0, 1, 2]
    ∧ [JigResult.none, .inProgress, .done, .tareClamped, .timedOut].map JigResult.num = [0, 1, 2, 3, 4]
    ∧ [Owner.none, .hoist .h1, .hoist .h2, .pair].map Owner.num = [0, 1, 2, 3]
    ∧ [PollMode.continuous, .periodic].map PollMode.num = [0, 1]
    ∧ [HoldCause.low, .high, .stale].map HoldCause.num = [0, 1, 2]
    ∧ [JobStatus.opened, .held, .closed].map JobStatus.num = [0, 1, 2]

/-- A reading is cut at item boundaries: its pages one after the other are its items, and no page is longer than 57 bytes
where no item is; each page but the last is full, the first item of the next not fitting (R183). -/
def Obligations.PagesHoldWholeItems : Prop :=
  ∀ items : List Item, (∀ x ∈ items, x.length ≤ 57) →
    (pagesOf items).flatten = items.flatten
    ∧ (∀ page ∈ pagesOf items, page.length ≤ 57)
    ∧ (∃ cut : List (List Item), cut.flatten = items ∧ cut.map List.flatten = pagesOf items
        ∧ ∀ (i : Nat) (a b : List Item) (x : Item), cut[i]? = some a → cut[i + 1]? = some b → b.head? = some x →
          57 < a.flatten.length + x.length)

/-! ## Motion limiting -/

/-- The applied speed of each axis is the least of the requested speed and every limit that the active sources give in its
direction, 0 for a STOP, and the direction field is STOP exactly at speed 0 (R33). The governing limit is NONE where the
direction is STOP or no limit is below the requested speed, else the earliest of the sources that give the least limit; a
request is reduced exactly when a governing limit is not NONE (R34, R35). At a requested speed of 0 on a FAULTED port R37
gives the governing limit FAULT and R34 and R35 give NONE: that NONE is recorded there is the model's choice (log 39). -/
def Obligations.AppliedSpeedsAreTheLeast : Prop :=
  (∀ (v w : MotionValues) (h : Hoist) (s : State), w = appliedValues v h s →
    (v.hoistDir = .stop → w.hoistSpeed = 0) ∧ (v.travelDir = .stop → w.travelSpeed = 0)
    ∧ (v.hoistDir ≠ .stop → w.hoistSpeed ≤ v.hoistSpeed
      ∧ (∀ src l, limitIn v.hoistDir (limitsOf src h s) = some l → w.hoistSpeed ≤ l)
      ∧ (w.hoistSpeed = v.hoistSpeed ∨ ∃ src, limitIn v.hoistDir (limitsOf src h s) = some w.hoistSpeed))
    ∧ (v.travelDir ≠ .stop → w.travelSpeed ≤ v.travelSpeed
      ∧ (∀ src l, (limitsOf src h s).travel = some l → w.travelSpeed ≤ l)
      ∧ (w.travelSpeed = v.travelSpeed ∨ ∃ src, (limitsOf src h s).travel = some w.travelSpeed))
    ∧ w.hoistDir = (if w.hoistSpeed = 0 then .stop else v.hoistDir)
    ∧ w.travelDir = (if w.travelSpeed = 0 then .stop else v.travelDir))
  ∧ (∀ (v : MotionValues) (h : Hoist) (s : State),
    ((hoistAxis v h s).2 = none ↔ v.hoistDir = .stop
      ∨ ∀ src l, limitIn v.hoistDir (limitsOf src h s) = some l → v.hoistSpeed ≤ l)
    ∧ (∀ src, (hoistAxis v h s).2 = some src → ∃ l, limitIn v.hoistDir (limitsOf src h s) = some l ∧ l < v.hoistSpeed
      ∧ ∀ src' l', limitIn v.hoistDir (limitsOf src' h s) = some l' →
        l ≤ l' ∧ (governingNum (some src') < governingNum (some src) → l < l'))
    ∧ ((travelAxis v h s).2 = none ↔ v.travelDir = .stop ∨ ∀ src l, (limitsOf src h s).travel = some l → v.travelSpeed ≤ l)
    ∧ (∀ src, (travelAxis v h s).2 = some src → ∃ l, (limitsOf src h s).travel = some l ∧ l < v.travelSpeed
      ∧ ∀ src' l', (limitsOf src' h s).travel = some l' →
        l ≤ l' ∧ (governingNum (some src') < governingNum (some src) → l < l')))
  ∧ (∀ (p : List Byte) (h : Hoist) (s : State), (limitMotion p h s).reduced = true ↔
      (limitMotion p h s).govHoist ≠ none ∨ (limitMotion p h s).govTravel ≠ none)

/-- The limits that each source gives: every source but STATE by its rule (R37 to R39, R55, R86, R87, R98, R108, R117,
R127); STATE by the table of R96 in every state that holds a tag, with down 0 while the bottom is unknown, and the hook
guard of R97 in IDLE and JIG_WEIGH. That one missing height of a pair makes down 0 for both is log 20. -/
def Obligations.LimitSourcesGiveTheirLimits : Prop :=
  (∀ (h : Hoist) (s : State),
    limitsOf .fault h s = (if (s.ports.get h.port).state = .faulted ∨ (s.ports.get h.port).state = .isolated
      then ⟨some 0, some 0, some 0⟩ else ⟨none, none, none⟩)
    ∧ limitsOf .operator h s = ⟨some (s.motion.get h).cap, some (s.motion.get h).cap, none⟩
    ∧ limitsOf .rated h s = ⟨some (s.tables.hoists.get h).ratedUp, some (s.tables.hoists.get h).ratedDown,
        some (s.tables.hoists.get h).ratedTravel⟩
    ∧ limitsOf .zone h s = (if (s.contexts.get h).state = .waitingZone then ⟨none, some 0, none⟩
      else ⟨none, none, none⟩)
    ∧ limitsOf .bath h s = (if s.bath.hold.isSome ∧ (s.contexts.get h).state ∈ [.ready, .waitingZone, .lowering]
          ∧ (dipBottom h s).any (fun b : Int => decide (b ≤ s.tables.zoneMap.rim + s.tables.zoneMap.margin))
        then ⟨none, some 0, none⟩ else ⟨none, none, none⟩)
    ∧ (∀ t b x, (s.contexts.get h).tag = some t → dipBottom h s = some b → highestDross t.firstZone t.lastZone
        s.tables.zoneMap = some x → limitsOf .dross h s
          = (if b ≤ x + s.tables.zoneMap.clearance then ⟨none, some 0, none⟩ else ⟨none, none, none⟩))
    ∧ ((s.contexts.get h).tag = none ∨ dipBottom h s = none → limitsOf .dross h s = ⟨none, none, none⟩)
    ∧ limitsOf .float h s = (if (s.contexts.get h).floatLatched then ⟨none, some 0, none⟩ else ⟨none, none, none⟩)
    ∧ limitsOf .grounded h s = (if (s.contexts.get h).grounded then ⟨none, some 0, none⟩ else ⟨none, none, none⟩)
    ∧ limitsOf .overload h s = (if (s.channels.get h).overload
        then ⟨some (s.tables.hoists.get h).creep, none, none⟩ else ⟨none, none, none⟩)
    ∧ (∀ m o, s.contexts.h1.pair = .paired → s.contexts.h2.pair = .paired → hookHeight h s = some m →
        hookHeight h.other s = some o → limitsOf .tilt h s
          = (if m + s.tables.zoneMap.tilt < o then ⟨none, some 0, none⟩
             else if o + s.tables.zoneMap.tilt < m then ⟨some 0, none, none⟩ else ⟨none, none, none⟩))
    ∧ (s.contexts.h1.pair ≠ .paired ∨ s.contexts.h2.pair ≠ .paired ∨ hookHeight h s = none
        ∨ hookHeight h.other s = none → limitsOf .tilt h s = ⟨none, none, none⟩))
  ∧ (∀ (h : Hoist) (s : State) (c : Context), c = s.contexts.get h →
    (c.state = .idle ∨ c.state = .jigWeigh → limitsOf .state h s = ⟨none,
      if c.permit then none else match hookHeight h s with
        | some y => if y ≤ s.tables.zoneMap.rim + s.tables.zoneMap.margin then some 0 else none
        | none => some 0, none⟩)
    ∧ (∀ t pr, c.tag = some t → findProfile t.profile s = some pr → c.state ≠ .idle → c.state ≠ .jigWeigh →
      ∀ (down : Option Nat → Option Nat), (∀ d, down d = if (dipBottom h s).isNone then some 0 else d) →
      (c.state = .tagged → limitsOf .state h s = ⟨none, down (if (dipBottom h s).any
          (fun b : Int => decide (b ≤ s.tables.zoneMap.rim + s.tables.zoneMap.margin)) then some 0 else none), none⟩)
      ∧ (c.state = .ready ∨ c.state = .waitingZone → limitsOf .state h s = ⟨none, down none, none⟩)
      ∧ (c.state = .lowering → limitsOf .state h s = ⟨none, down (some pr.approachSpeed), some 0⟩)
      ∧ (c.state = .entering → limitsOf .state h s = ⟨some pr.entrySpeed, down (some pr.entrySpeed), some 0⟩)
      ∧ (c.state = .immersed → limitsOf .state h s
          = ⟨some (if c.dwellDeadline.any (fun d => d ≤ s.now) then pr.withdrawSpeed else 0),
            down (some pr.entrySpeed), some 0⟩)
      ∧ (c.state = .withdrawing → limitsOf .state h s
          = ⟨some pr.withdrawSpeed, down (some pr.entrySpeed), some 0⟩)
      ∧ (c.state = .draining → limitsOf .state h s = ⟨some pr.drainSpeed, some 0, some 0⟩)
      ∧ (c.state = .weighing → limitsOf .state h s
          = ⟨none, down none, if c.claim = .held then some 0 else none⟩)
      ∧ (c.state = .abandoned → limitsOf .state h s = ⟨some pr.withdrawSpeed, some 0, some 0⟩)))

/-! ## The weighing channel -/

/-- The stages of a converted sample: the mass is the exact quotient rounded to nearest with halves away from zero, then
clamped, with the over-range indication (R51); f is seeded with it or moves toward it by the truncated step of at least
one (R52); then settling (R53), overload with its hysteresis (R54), and zero tracking inside its fence (R56). -/
def Obligations.ChannelStagesOfAConvertedSample : Prop :=
  (∀ (count zero : Int) (gain : Nat) (n m : Int), n = (count - zero) * gain → m = rawMass count zero gain →
    2 * (65536 * m - n).natAbs ≤ 65536 ∧ (2 * (65536 * m - n).natAbs = 65536 → n.natAbs < 65536 * m.natAbs))
  ∧ (∀ (c c' : Channel) (r : CalRecord) (count z m : Int), c.zero = some z →
    m = max (-10000) (min 400000 (rawMass count z r.gain)) → c' = c.convert r count →
    c' = { c with
      mass := some m, overRange := decide (rawMass count z r.gain < -10000 ∨ 400000 < rawMass count z r.gain)
      filtered := c'.filtered }
    ∧ (c.filtered = none → c'.filtered = some m)
    ∧ (∀ f, c.filtered = some f → ∃ d : Int, c'.filtered = some (f + d)
      ∧ (m = f → d = 0)
      ∧ (f < m → d = max 1 ((m - f) / 2 ^ r.shift)) ∧ (m < f → d = -max 1 ((f - m) / 2 ^ r.shift))))
  ∧ (∀ (c : Channel) (r : CalRecord) (t : Telemetry) (idle : Bool) (m f z : Int), c.mass = some m → c.filtered = some f →
    c.zero = some z →
    c.settleStage r = { c with
      settle := if c.overRange = false ∧ (m - f).natAbs ≤ r.settleBand then min 255 (c.settle + 1) else 0 }
    ∧ c.overloadStage r = { c with
      overload := if c.overload then decide ((r.overThreshold : Int) - r.overHyst ≤ f)
        else decide ((r.overThreshold : Int) < f) }
    ∧ (idle = true → f.natAbs ≤ r.zeroBand → t.moving = false → ∃ d : Int,
      c.trackStage r t idle = { c with
        zero := some (max (r.zero - r.trackRange) (min (r.zero + r.trackRange) (z + d))) }
      ∧ (t.count = z → d = 0)
      ∧ (z < t.count → d = max 1 ((t.count - z) / 4096)) ∧ (t.count < z → d = -max 1 ((z - t.count) / 4096)))
    ∧ (idle = false ∨ r.zeroBand < f.natAbs ∨ t.moving = true → c.trackStage r t idle = c))

/-- A telemetry sample is taken whole, in order: the channel records the block (R50); uncalibrated it goes no further, with
load valid clear only the settle count becomes 0 (R50), else the stages follow in the order of R51 to R56; OVERLOAD is set
at the onset of overload (R54); then the context takes the sample, converted or not (R57), in the three steps of R76:
OVERLOAD_SEEN, the one transition test of its state, and the in-bath updates; last, the poll mode follows (R121). In IDLE,
WAITING_ZONE and DRAINING nothing is tested (R81, R88). -/
def Obligations.TelemetrySamplesAreTakenWhole : Prop :=
  (∀ (c c0 : Channel) (t : Telemetry) (idle : Bool) (now : Nat), c0 = { c with
      block := some ⟨t.count, t.loadValid, t.moving⟩
      height := if t.heightValid then some ⟨t.height, now⟩ else c.height } →
    c.sample none t idle now = c0
    ∧ (∀ r, t.loadValid = false → c.sample (some r) t idle now = { c0 with settle := 0 })
    ∧ (∀ r, t.loadValid = true →
      c.sample (some r) t idle now = (((c0.convert r t.count).settleStage r).overloadStage r).trackStage r t idle))
  ∧ (∀ (h : Hoist) (t : Telemetry) (s : State) (c : Channel),
    c = (s.channels.get h).sample (s.tables.calibration.get h) t ((s.contexts.get h).state == .idle) s.now →
    takeSample h t s = contextSample h { s with
      channels := s.channels.set h c
      notices := { s.notices with
        overload := s.notices.overload || (c.overload && !(s.channels.get h).overload) } })
  ∧ (∀ (h : Hoist) (s s1 s2 s3 : State),
    s1 = (if (s.contexts.get h).state ∉ [.idle, .jigWeigh, .abandoned]
          ∧ ((s.channels.get h).overload = true ∨ joint s = true ∧ (s.channels.get h.other).overload = true)
        then changeDip h (fun c => { c with flags := { c.flags with overloadSeen := true } }) s else s) →
    s2 = transitionTest h s1 →
    s3 = (if (s2.contexts.get h).state ∈ [.entering, .immersed, .withdrawing]
        then inBathUpdates h (s.contexts.get h).state s2 else s2) →
    contextSample h s = syncPollMode s3)
  ∧ (∀ (h : Hoist) (s : State), (s.contexts.get h).state ∈ [.idle, .waitingZone, .draining] → transitionTest h s = s)

/-- The heights and the figures that a dip is followed by: bottom and top from the hook height, the height offset and the
tag (R72), absent without a tag or a hook height; of a pair driven as one, before an abort, the lower bottom, the higher
top, the sum of both f, settled and still of both channels, absent where either part is (R111, R112, R116); and the highest
dross ceiling of a zone set (R98). -/
def Obligations.LoadGeometryAndPairValues : Prop :=
  (∀ (h : Hoist) (s : State),
    hookHeight h s = (s.channels.get h).height.map (fun x => x.height + (s.tables.hoists.get h).offset)
    ∧ (∀ tg x, (s.contexts.get h).tag = some tg → (s.channels.get h).height = some x →
      ownBottom h s = some (x.height + (s.tables.hoists.get h).offset - tg.loadDepth)
      ∧ ownTop h s = some (x.height + (s.tables.hoists.get h).offset - tg.loadDepth + tg.workHeight))
    ∧ ((s.contexts.get h).tag = none ∨ (s.channels.get h).height = none → ownBottom h s = none ∧ ownTop h s = none)
    ∧ (channelSettled h s = true ↔ ∃ r f, s.tables.calibration.get h = some r ∧ (s.channels.get h).filtered = some f
      ∧ r.settleCount ≤ (s.channels.get h).settle)
    ∧ (channelStill h s = true ↔ ∃ b, (s.channels.get h).block = some b ∧ b.moving = false))
  ∧ (∀ s : State, joint s = true ↔ ∀ h : Hoist, (s.contexts.get h).pair = .paired ∧ (s.contexts.get h).state ≠ .abandoned)
  ∧ (∀ (h : Hoist) (s : State), joint s = false → dipBottom h s = ownBottom h s ∧ dipTop h s = ownTop h s
    ∧ dipFiltered h s = (s.channels.get h).filtered ∧ dipSettled h s = channelSettled h s
    ∧ dipStill h s = channelStill h s)
  ∧ (∀ (h : Hoist) (s : State), joint s = true →
    (∀ x : Int, dipBottom h s = some x ↔ ∃ a b, ownBottom .h1 s = some a ∧ ownBottom .h2 s = some b ∧ x = min a b)
    ∧ (∀ x : Int, dipTop h s = some x ↔ ∃ a b, ownTop .h1 s = some a ∧ ownTop .h2 s = some b ∧ x = max a b)
    ∧ (∀ x : Int, dipFiltered h s = some x ↔
      ∃ a b, s.channels.h1.filtered = some a ∧ s.channels.h2.filtered = some b ∧ x = a + b)
    ∧ (dipSettled h s = true ↔ channelSettled .h1 s = true ∧ channelSettled .h2 s = true)
    ∧ (dipStill h s = true ↔ channelStill .h1 s = true ∧ channelStill .h2 s = true))
  ∧ (∀ (first last : Nat) (m : ZoneMap),
    (∀ x, highestDross first last m = some x ↔
      (∃ z : Zone, first ≤ z.num ∧ z.num ≤ last ∧ (m.zones.get z).ceiling = x)
      ∧ ∀ z : Zone, first ≤ z.num → z.num ≤ last → (m.zones.get z).ceiling ≤ x)
    ∧ (highestDross first last m = none ↔ ∀ z : Zone, ¬ (first ≤ z.num ∧ z.num ≤ last)))

/-! ## Invariants that every step keeps -/

/-- Every step keeps the law of the dips: tags and reserved places stand in the states that hold them, two paired contexts
have the same state and load until an abort, every zone under a load is its own, the waiting claim is a waiting
context's, and records held and places reserved are at most 48 (R75, R105, R111, R149). With the dips in order, a pair
holds the figures and the flags of its dip alike from its formation to its abort, and a PARTNER PENDING context holds none
but OVERLOAD_SEEN (R110, R111; the flags at the formation are log 27). -/
def Obligations.EveryStepKeepsTheDips : Prop :=
  (∀ s t : State, dipsOk s = true → step s = .next t → dipsOk t = true)
  ∧ (∀ s t : State, dipsOk s = true → pairsAlike s = true → step s = .next t → pairsAlike t = true)

/-- Every step keeps every tag naming a job that is OPEN or HELD, a jig IN SERVICE and a profile that is present (R75);
with the dips in order, it keeps the zones of every tag in service (R104), and the poll mode CONTINUOUS exactly while the
bath is active (R120). -/
def Obligations.EveryStepKeepsTheTagsInOrder : Prop :=
  (∀ s t : State, tagsNameTables s = true → step s = .next t → tagsNameTables t = true)
  ∧ (∀ s t : State, dipsOk s = true → tagZonesOk s = true → pollModeOk s = true → step s = .next t →
    tagZonesOk t = true ∧ pollModeOk t = true)

/-- Every step keeps every filtered mass between −10,000 and 400,000 du (R52), and every hook zero within its calibrated
zero, plus or minus its zero track range (R56). -/
def Obligations.EveryStepKeepsTheMassesAndTheZeros : Prop :=
  (∀ s t : State, massesInRange s = true → step s = .next t → massesInRange t = true)
  ∧ (∀ s t : State, zerosInFence s = true → step s = .next t → zerosInFence t = true)

/-- Every step keeps every stored table in its ranges and constraints, in working memory, in the snapshot of a save and in
the image, with the check over its content (R172; the content's layout, and a check neither reflected nor inverted, are the
model's choice, log 37), the law of the kettle balance among them (R138); and every record's ratio as R150 says. -/
def Obligations.EveryStepKeepsTheStoredTablesAndTheRatios : Prop :=
  (∀ s t : State, storedOk s = true → step s = .next t → storedOk t = true)
  ∧ (∀ s t : State, ratiosOk s = true → step s = .next t → ratiosOk t = true)

/-- Every step keeps port K out of ISOLATED, each port's timers running in the states that have them (1.6), and STOP in
the applied values exactly at speed 0 (R33). -/
def Obligations.EveryStepKeepsThePortsAndTheAppliedValues : Prop :=
  (∀ s t : State, portKNeverIsolated s = true → step s = .next t → portKNeverIsolated t = true)
  ∧ (∀ s t : State, portTimersOk s = true → step s = .next t → portTimersOk t = true)
  ∧ (∀ s t : State, appliedOk s = true → step s = .next t → appliedOk t = true)
end

