-- ==== Sys2Proof/Laws/Decode.lean ====
section
/-! SUPPORT. Numbers in bytes: what is written is read back, with every field at every value of its width. -/

namespace Sys2Proof

@[simp] theorem length_beBytes (w n : Nat) : (beBytes w n).length = w := by
  induction w generalizing n with
  | zero => rfl
  | succ w ih => simp [beBytes, ih]

@[simp] theorem length_beInt (w : Nat) (x : Int) : (beInt w x).length = w := by simp [beInt]

theorem fromBE_append_one (bs : List Byte) (b : Byte) : fromBE (bs ++ [b]) = fromBE bs * 256 + b.toNat := by
  simp [fromBE]

/-- The bytes of a number, read back, are the number modulo what the width holds. -/
theorem fromBE_beBytes (w n : Nat) : fromBE (beBytes w n) = n % 256 ^ w := by
  induction w generalizing n with
  | zero => simp [beBytes, fromBE, Nat.mod_one]
  | succ w ih =>
    have h : n % 256 ^ (w + 1) = n % 256 + 256 * (n / 256 % 256 ^ w) := by
      rw [Nat.pow_succ, Nat.mul_comm (256 ^ w) 256, Nat.mod_mul]
    rw [beBytes, fromBE_append_one, ih, BitVec.toNat_ofNat, h]
    omega

/-- A number that fits its width is read back whole. -/
theorem fromBE_beBytes_fits (w n : Nat) (h : fitsNat w n = true) : fromBE (beBytes w n) = n := by
  rw [fromBE_beBytes, Nat.mod_eq_of_lt (by simpa [fitsNat] using h)]

/-- A field at the front of a payload. -/
theorem fieldNat_front (w n : Nat) (rest : List Byte) (h : fitsNat w n = true) :
    fieldNat (beBytes w n ++ rest) 0 w = n := by
  have hl := length_beBytes w n
  simp [fieldNat, List.take_append_of_le_length (Nat.le_of_eq hl.symm), List.take_of_length_le (Nat.le_of_eq hl),
    fromBE_beBytes_fits w n h]

/-- A field after the bytes before it. -/
theorem fieldNat_append (before rest : List Byte) (i w : Nat) :
    fieldNat (before ++ rest) (before.length + i) w = fieldNat rest i w := by
  unfold fieldNat
  rw [List.drop_append, List.drop_eq_nil_of_le (Nat.le_add_right _ _)]
  simp

/-- A signed number that fits its width is read back whole. -/
theorem fieldInt_front (w : Nat) (x : Int) (rest : List Byte) (hw : 0 < w) (h : fitsInt w x = true) :
    fieldInt (beInt w x ++ rest) 0 w = x := by
  have h256 : (256 : Nat) ^ w = 2 ^ (8 * w) := by rw [Nat.pow_mul]
  have hfit : fitsNat w (BitVec.ofInt (8 * w) x).toNat = true := by
    simpa [fitsNat, h256] using (BitVec.ofInt (8 * w) x).isLt
  rw [fieldInt, beInt, fieldNat_front w _ rest hfit, BitVec.ofNat_toNat, BitVec.setWidth_eq, BitVec.toInt_ofInt]
  simp only [fitsInt, Bool.and_eq_true, decide_eq_true_eq] at h
  obtain ⟨w, rfl⟩ : ∃ v, w = v + 1 := ⟨w - 1, by omega⟩
  simp only [Nat.add_sub_cancel] at h
  have e : (2 : Int) ^ (8 * (w + 1)) = 2 * (128 * 256 ^ w) := by
    rw [Nat.mul_add, pow_add, pow_mul]; norm_num; ring
  have e' : ((2 ^ (8 * (w + 1)) : Nat) : Int) = 2 * (128 * 256 ^ w) := by
    rw [← e]; push_cast; rfl
  rw [Int.bmod_def, e']
  have : (2 * (128 * 256 ^ w : Int) + 1) / 2 = 128 * 256 ^ w := by omega
  rw [this]
  generalize (256 : Int) ^ w = c at *
  have hc : 0 < c ∨ c ≤ 0 := lt_or_ge 0 c
  rcases hc with hc | hc
  · by_cases hx : 0 ≤ x
    · rw [Int.emod_eq_of_lt hx (by omega)]; split <;> omega
    · have : x % (2 * (128 * c)) = x + 2 * (128 * c) := by
        rw [← Int.add_emod_right, Int.emod_eq_of_lt (by omega) (by omega)]
      rw [this]; split <;> omega
  · omega

end Sys2Proof
end

