-- ==== Sys2Proof/Laws/State.lean ====
section
/-! SUPPORT. What each updater of the state makes of each field: one lemma per field per update, so that no proof unfolds a
record update. -/

namespace Sys2Proof.Machine

/-! ## Families of like things -/

@[simp] theorem PerHoist.get_h1 {α : Type} (v : PerHoist α) : v.get .h1 = v.h1 := rfl

@[simp] theorem PerHoist.get_h2 {α : Type} (v : PerHoist α) : v.get .h2 = v.h2 := rfl

@[simp] theorem PerHoist.get_set_same {α : Type} (v : PerHoist α) (h : Hoist) (x : α) : (v.set h x).get h = x := by
  cases h <;> rfl

theorem PerHoist.get_set {α : Type} (v : PerHoist α) (h j : Hoist) (x : α) :
    (v.set h x).get j = if j = h then x else v.get j := by cases h <;> cases j <;> rfl

@[simp] theorem PerHoist.get_set_other {α : Type} (v : PerHoist α) (h : Hoist) (x : α) :
    (v.set h x).get h.other = v.get h.other := by cases h <;> rfl

@[simp] theorem PerHoist.set_get {α : Type} (v : PerHoist α) (h : Hoist) : v.set h (v.get h) = v := by cases h <;> rfl

@[simp] theorem PerHoist.set_set {α : Type} (v : PerHoist α) (h : Hoist) (x y : α) :
    (v.set h x).set h y = v.set h y := by cases h <;> rfl

@[simp] theorem PerPort.get_a {α : Type} (v : PerPort α) : v.get .a = v.a := rfl

@[simp] theorem PerPort.get_b {α : Type} (v : PerPort α) : v.get .b = v.b := rfl

@[simp] theorem PerPort.get_k {α : Type} (v : PerPort α) : v.get .k = v.k := rfl

@[simp] theorem PerPort.get_set_same {α : Type} (v : PerPort α) (p : Port) (x : α) : (v.set p x).get p = x := by
  cases p <;> rfl

theorem PerPort.get_set {α : Type} (v : PerPort α) (p r : Port) (x : α) :
    (v.set p x).get r = if r = p then x else v.get r := by cases p <;> cases r <;> rfl

@[simp] theorem PerPort.set_get {α : Type} (v : PerPort α) (p : Port) : v.set p (v.get p) = v := by cases p <;> rfl

@[simp] theorem PerPort.set_set {α : Type} (v : PerPort α) (p : Port) (x y : α) :
    (v.set p x).set p y = v.set p y := by cases p <;> rfl

theorem PerZone.get_set {α : Type} (v : PerZone α) (z r : Zone) (x : α) :
    (v.set z x).get r = if r = z then x else v.get r := by cases z <;> cases r <;> rfl

theorem PerGroup.get_set {α : Type} (v : PerGroup α) (g r : Group) (x : α) :
    (v.set g x).get r = if r = g then x else v.get r := by cases g <;> cases r <;> rfl

@[simp] theorem Hoist.other_other (h : Hoist) : h.other.other = h := by cases h <;> rfl

@[simp] theorem Hoist.other_ne (h : Hoist) : h.other ≠ h := by cases h <;> decide

@[simp] theorem Hoist.hoist_port (h : Hoist) : Port.hoist h.port = some h := by cases h <;> rfl

/-- Two families of hoists with the same two values are the same. -/
theorem PerHoist.ext_get {α : Type} (v w : PerHoist α) (h : ∀ x, v.get x = w.get x) : v = w := by
  cases v; cases w; simpa using And.intro (h .h1) (h .h2)

/-- Two families of ports with the same three values are the same. -/
theorem PerPort.ext_get {α : Type} (v w : PerPort α) (h : ∀ x, v.get x = w.get x) : v = w := by
  cases v; cases w; simpa using And.intro (h .a) (And.intro (h .b) (h .k))

/-! ## Notices -/

theorem NoticeFlags.get_set (f : NoticeFlags) (n m : Notice) (b : Bool) :
    (f.set n b).get m = if m = n then b else f.get m := by cases n <;> cases m <;> rfl

/-! ## `State.begin` -/

@[simp] theorem State.begin_tables (s : State) : (s.begin).tables = s.tables := rfl

@[simp] theorem State.begin_image (s : State) : (s.begin).image = s.image := rfl

@[simp] theorem State.begin_save (s : State) : (s.begin).save = s.save := rfl

@[simp] theorem State.begin_storeState (s : State) : (s.begin).storeState = s.storeState := rfl

@[simp] theorem State.begin_restartCause (s : State) : (s.begin).restartCause = s.restartCause := rfl

@[simp] theorem State.begin_serviceAsserted (s : State) : (s.begin).serviceAsserted = s.serviceAsserted := rfl

@[simp] theorem State.begin_now (s : State) : (s.begin).now = s.now := rfl

@[simp] theorem State.begin_upstreamDamaged (s : State) : (s.begin).upstreamDamaged = s.upstreamDamaged := rfl

@[simp] theorem State.begin_seqCounter (s : State) : (s.begin).seqCounter = s.seqCounter := rfl

@[simp] theorem State.begin_ports (s : State) : (s.begin).ports = s.ports := rfl

@[simp] theorem State.begin_trapHits (s : State) : (s.begin).trapHits = s.trapHits := rfl

@[simp] theorem State.begin_motion (s : State) : (s.begin).motion = s.motion := rfl

@[simp] theorem State.begin_channels (s : State) : (s.begin).channels = s.channels := rfl

@[simp] theorem State.begin_contexts (s : State) : (s.begin).contexts = s.contexts := rfl

@[simp] theorem State.begin_owners (s : State) : (s.begin).owners = s.owners := rfl

@[simp] theorem State.begin_waiting (s : State) : (s.begin).waiting = s.waiting := rfl

@[simp] theorem State.begin_bath (s : State) : (s.begin).bath = s.bath := rfl

@[simp] theorem State.begin_records (s : State) : (s.begin).records = s.records := rfl

@[simp] theorem State.begin_nextRecord (s : State) : (s.begin).nextRecord = s.nextRecord := rfl

@[simp] theorem State.begin_notices (s : State) : (s.begin).notices = s.notices := rfl

@[simp] theorem State.begin_sent (s : State) : (s.begin).sent = [] := rfl

@[simp] theorem State.begin_pending (s : State) : (s.begin).pending = s.pending := rfl

/-! ## `State.setTables` -/

@[simp] theorem State.setTables_tables (s : State) (x : Tables) : (s.setTables x).tables = x := rfl

@[simp] theorem State.setTables_image (s : State) (x : Tables) : (s.setTables x).image = s.image := rfl

@[simp] theorem State.setTables_save (s : State) (x : Tables) : (s.setTables x).save = s.save := rfl

@[simp] theorem State.setTables_storeState (s : State) (x : Tables) : (s.setTables x).storeState = s.storeState := rfl

@[simp] theorem State.setTables_restartCause (s : State) (x : Tables) :
    (s.setTables x).restartCause = s.restartCause := rfl

@[simp] theorem State.setTables_serviceAsserted (s : State) (x : Tables) :
    (s.setTables x).serviceAsserted = s.serviceAsserted := rfl

@[simp] theorem State.setTables_now (s : State) (x : Tables) : (s.setTables x).now = s.now := rfl

@[simp] theorem State.setTables_upstreamDamaged (s : State) (x : Tables) :
    (s.setTables x).upstreamDamaged = s.upstreamDamaged := rfl

@[simp] theorem State.setTables_seqCounter (s : State) (x : Tables) : (s.setTables x).seqCounter = s.seqCounter := rfl

@[simp] theorem State.setTables_ports (s : State) (x : Tables) : (s.setTables x).ports = s.ports := rfl

@[simp] theorem State.setTables_trapHits (s : State) (x : Tables) : (s.setTables x).trapHits = s.trapHits := rfl

@[simp] theorem State.setTables_motion (s : State) (x : Tables) : (s.setTables x).motion = s.motion := rfl

@[simp] theorem State.setTables_channels (s : State) (x : Tables) : (s.setTables x).channels = s.channels := rfl

@[simp] theorem State.setTables_contexts (s : State) (x : Tables) : (s.setTables x).contexts = s.contexts := rfl

@[simp] theorem State.setTables_owners (s : State) (x : Tables) : (s.setTables x).owners = s.owners := rfl

@[simp] theorem State.setTables_waiting (s : State) (x : Tables) : (s.setTables x).waiting = s.waiting := rfl

@[simp] theorem State.setTables_bath (s : State) (x : Tables) : (s.setTables x).bath = s.bath := rfl

@[simp] theorem State.setTables_records (s : State) (x : Tables) : (s.setTables x).records = s.records := rfl

@[simp] theorem State.setTables_nextRecord (s : State) (x : Tables) : (s.setTables x).nextRecord = s.nextRecord := rfl

@[simp] theorem State.setTables_notices (s : State) (x : Tables) : (s.setTables x).notices = s.notices := rfl

@[simp] theorem State.setTables_sent (s : State) (x : Tables) : (s.setTables x).sent = s.sent := rfl

@[simp] theorem State.setTables_pending (s : State) (x : Tables) : (s.setTables x).pending = s.pending := rfl

/-! ## `State.setPort` -/

@[simp] theorem State.setPort_tables (s : State) (p : Port) (x : PortUnit) : (s.setPort p x).tables = s.tables := rfl

@[simp] theorem State.setPort_image (s : State) (p : Port) (x : PortUnit) : (s.setPort p x).image = s.image := rfl

@[simp] theorem State.setPort_save (s : State) (p : Port) (x : PortUnit) : (s.setPort p x).save = s.save := rfl

@[simp] theorem State.setPort_storeState (s : State) (p : Port) (x : PortUnit) :
    (s.setPort p x).storeState = s.storeState := rfl

@[simp] theorem State.setPort_restartCause (s : State) (p : Port) (x : PortUnit) :
    (s.setPort p x).restartCause = s.restartCause := rfl

@[simp] theorem State.setPort_serviceAsserted (s : State) (p : Port) (x : PortUnit) :
    (s.setPort p x).serviceAsserted = s.serviceAsserted := rfl

@[simp] theorem State.setPort_now (s : State) (p : Port) (x : PortUnit) : (s.setPort p x).now = s.now := rfl

@[simp] theorem State.setPort_upstreamDamaged (s : State) (p : Port) (x : PortUnit) :
    (s.setPort p x).upstreamDamaged = s.upstreamDamaged := rfl

@[simp] theorem State.setPort_seqCounter (s : State) (p : Port) (x : PortUnit) :
    (s.setPort p x).seqCounter = s.seqCounter := rfl

@[simp] theorem State.setPort_ports (s : State) (p : Port) (x : PortUnit) :
    (s.setPort p x).ports = s.ports.set p x := rfl

@[simp] theorem State.setPort_trapHits (s : State) (p : Port) (x : PortUnit) :
    (s.setPort p x).trapHits = s.trapHits := rfl

@[simp] theorem State.setPort_motion (s : State) (p : Port) (x : PortUnit) : (s.setPort p x).motion = s.motion := rfl

@[simp] theorem State.setPort_channels (s : State) (p : Port) (x : PortUnit) :
    (s.setPort p x).channels = s.channels := rfl

@[simp] theorem State.setPort_contexts (s : State) (p : Port) (x : PortUnit) :
    (s.setPort p x).contexts = s.contexts := rfl

@[simp] theorem State.setPort_owners (s : State) (p : Port) (x : PortUnit) : (s.setPort p x).owners = s.owners := rfl

@[simp] theorem State.setPort_waiting (s : State) (p : Port) (x : PortUnit) :
    (s.setPort p x).waiting = s.waiting := rfl

@[simp] theorem State.setPort_bath (s : State) (p : Port) (x : PortUnit) : (s.setPort p x).bath = s.bath := rfl

@[simp] theorem State.setPort_records (s : State) (p : Port) (x : PortUnit) :
    (s.setPort p x).records = s.records := rfl

@[simp] theorem State.setPort_nextRecord (s : State) (p : Port) (x : PortUnit) :
    (s.setPort p x).nextRecord = s.nextRecord := rfl

@[simp] theorem State.setPort_notices (s : State) (p : Port) (x : PortUnit) :
    (s.setPort p x).notices = s.notices := rfl

@[simp] theorem State.setPort_sent (s : State) (p : Port) (x : PortUnit) : (s.setPort p x).sent = s.sent := rfl

@[simp] theorem State.setPort_pending (s : State) (p : Port) (x : PortUnit) :
    (s.setPort p x).pending = s.pending := rfl

/-! ## `State.setMotion` -/

@[simp] theorem State.setMotion_tables (s : State) (h : Hoist) (x : HoistMotion) :
    (s.setMotion h x).tables = s.tables := rfl

@[simp] theorem State.setMotion_image (s : State) (h : Hoist) (x : HoistMotion) :
    (s.setMotion h x).image = s.image := rfl

@[simp] theorem State.setMotion_save (s : State) (h : Hoist) (x : HoistMotion) :
    (s.setMotion h x).save = s.save := rfl

@[simp] theorem State.setMotion_storeState (s : State) (h : Hoist) (x : HoistMotion) :
    (s.setMotion h x).storeState = s.storeState := rfl

@[simp] theorem State.setMotion_restartCause (s : State) (h : Hoist) (x : HoistMotion) :
    (s.setMotion h x).restartCause = s.restartCause := rfl

@[simp] theorem State.setMotion_serviceAsserted (s : State) (h : Hoist) (x : HoistMotion) :
    (s.setMotion h x).serviceAsserted = s.serviceAsserted := rfl

@[simp] theorem State.setMotion_now (s : State) (h : Hoist) (x : HoistMotion) : (s.setMotion h x).now = s.now := rfl

@[simp] theorem State.setMotion_upstreamDamaged (s : State) (h : Hoist) (x : HoistMotion) :
    (s.setMotion h x).upstreamDamaged = s.upstreamDamaged := rfl

@[simp] theorem State.setMotion_seqCounter (s : State) (h : Hoist) (x : HoistMotion) :
    (s.setMotion h x).seqCounter = s.seqCounter := rfl

@[simp] theorem State.setMotion_ports (s : State) (h : Hoist) (x : HoistMotion) :
    (s.setMotion h x).ports = s.ports := rfl

@[simp] theorem State.setMotion_trapHits (s : State) (h : Hoist) (x : HoistMotion) :
    (s.setMotion h x).trapHits = s.trapHits := rfl

@[simp] theorem State.setMotion_motion (s : State) (h : Hoist) (x : HoistMotion) :
    (s.setMotion h x).motion = s.motion.set h x := rfl

@[simp] theorem State.setMotion_channels (s : State) (h : Hoist) (x : HoistMotion) :
    (s.setMotion h x).channels = s.channels := rfl

@[simp] theorem State.setMotion_contexts (s : State) (h : Hoist) (x : HoistMotion) :
    (s.setMotion h x).contexts = s.contexts := rfl

@[simp] theorem State.setMotion_owners (s : State) (h : Hoist) (x : HoistMotion) :
    (s.setMotion h x).owners = s.owners := rfl

@[simp] theorem State.setMotion_waiting (s : State) (h : Hoist) (x : HoistMotion) :
    (s.setMotion h x).waiting = s.waiting := rfl

@[simp] theorem State.setMotion_bath (s : State) (h : Hoist) (x : HoistMotion) :
    (s.setMotion h x).bath = s.bath := rfl

@[simp] theorem State.setMotion_records (s : State) (h : Hoist) (x : HoistMotion) :
    (s.setMotion h x).records = s.records := rfl

@[simp] theorem State.setMotion_nextRecord (s : State) (h : Hoist) (x : HoistMotion) :
    (s.setMotion h x).nextRecord = s.nextRecord := rfl

@[simp] theorem State.setMotion_notices (s : State) (h : Hoist) (x : HoistMotion) :
    (s.setMotion h x).notices = s.notices := rfl

@[simp] theorem State.setMotion_sent (s : State) (h : Hoist) (x : HoistMotion) :
    (s.setMotion h x).sent = s.sent := rfl

@[simp] theorem State.setMotion_pending (s : State) (h : Hoist) (x : HoistMotion) :
    (s.setMotion h x).pending = s.pending := rfl

/-! ## `State.setChannel` -/

@[simp] theorem State.setChannel_tables (s : State) (h : Hoist) (x : Channel) :
    (s.setChannel h x).tables = s.tables := rfl

@[simp] theorem State.setChannel_image (s : State) (h : Hoist) (x : Channel) :
    (s.setChannel h x).image = s.image := rfl

@[simp] theorem State.setChannel_save (s : State) (h : Hoist) (x : Channel) : (s.setChannel h x).save = s.save := rfl

@[simp] theorem State.setChannel_storeState (s : State) (h : Hoist) (x : Channel) :
    (s.setChannel h x).storeState = s.storeState := rfl

@[simp] theorem State.setChannel_restartCause (s : State) (h : Hoist) (x : Channel) :
    (s.setChannel h x).restartCause = s.restartCause := rfl

@[simp] theorem State.setChannel_serviceAsserted (s : State) (h : Hoist) (x : Channel) :
    (s.setChannel h x).serviceAsserted = s.serviceAsserted := rfl

@[simp] theorem State.setChannel_now (s : State) (h : Hoist) (x : Channel) : (s.setChannel h x).now = s.now := rfl

@[simp] theorem State.setChannel_upstreamDamaged (s : State) (h : Hoist) (x : Channel) :
    (s.setChannel h x).upstreamDamaged = s.upstreamDamaged := rfl

@[simp] theorem State.setChannel_seqCounter (s : State) (h : Hoist) (x : Channel) :
    (s.setChannel h x).seqCounter = s.seqCounter := rfl

@[simp] theorem State.setChannel_ports (s : State) (h : Hoist) (x : Channel) :
    (s.setChannel h x).ports = s.ports := rfl

@[simp] theorem State.setChannel_trapHits (s : State) (h : Hoist) (x : Channel) :
    (s.setChannel h x).trapHits = s.trapHits := rfl

@[simp] theorem State.setChannel_motion (s : State) (h : Hoist) (x : Channel) :
    (s.setChannel h x).motion = s.motion := rfl

@[simp] theorem State.setChannel_channels (s : State) (h : Hoist) (x : Channel) :
    (s.setChannel h x).channels = s.channels.set h x := rfl

@[simp] theorem State.setChannel_contexts (s : State) (h : Hoist) (x : Channel) :
    (s.setChannel h x).contexts = s.contexts := rfl

@[simp] theorem State.setChannel_owners (s : State) (h : Hoist) (x : Channel) :
    (s.setChannel h x).owners = s.owners := rfl

@[simp] theorem State.setChannel_waiting (s : State) (h : Hoist) (x : Channel) :
    (s.setChannel h x).waiting = s.waiting := rfl

@[simp] theorem State.setChannel_bath (s : State) (h : Hoist) (x : Channel) : (s.setChannel h x).bath = s.bath := rfl

@[simp] theorem State.setChannel_records (s : State) (h : Hoist) (x : Channel) :
    (s.setChannel h x).records = s.records := rfl

@[simp] theorem State.setChannel_nextRecord (s : State) (h : Hoist) (x : Channel) :
    (s.setChannel h x).nextRecord = s.nextRecord := rfl

@[simp] theorem State.setChannel_notices (s : State) (h : Hoist) (x : Channel) :
    (s.setChannel h x).notices = s.notices := rfl

@[simp] theorem State.setChannel_sent (s : State) (h : Hoist) (x : Channel) : (s.setChannel h x).sent = s.sent := rfl

@[simp] theorem State.setChannel_pending (s : State) (h : Hoist) (x : Channel) :
    (s.setChannel h x).pending = s.pending := rfl

/-! ## `State.setContext` -/

@[simp] theorem State.setContext_tables (s : State) (h : Hoist) (x : Context) :
    (s.setContext h x).tables = s.tables := rfl

@[simp] theorem State.setContext_image (s : State) (h : Hoist) (x : Context) :
    (s.setContext h x).image = s.image := rfl

@[simp] theorem State.setContext_save (s : State) (h : Hoist) (x : Context) : (s.setContext h x).save = s.save := rfl

@[simp] theorem State.setContext_storeState (s : State) (h : Hoist) (x : Context) :
    (s.setContext h x).storeState = s.storeState := rfl

@[simp] theorem State.setContext_restartCause (s : State) (h : Hoist) (x : Context) :
    (s.setContext h x).restartCause = s.restartCause := rfl

@[simp] theorem State.setContext_serviceAsserted (s : State) (h : Hoist) (x : Context) :
    (s.setContext h x).serviceAsserted = s.serviceAsserted := rfl

@[simp] theorem State.setContext_now (s : State) (h : Hoist) (x : Context) : (s.setContext h x).now = s.now := rfl

@[simp] theorem State.setContext_upstreamDamaged (s : State) (h : Hoist) (x : Context) :
    (s.setContext h x).upstreamDamaged = s.upstreamDamaged := rfl

@[simp] theorem State.setContext_seqCounter (s : State) (h : Hoist) (x : Context) :
    (s.setContext h x).seqCounter = s.seqCounter := rfl

@[simp] theorem State.setContext_ports (s : State) (h : Hoist) (x : Context) :
    (s.setContext h x).ports = s.ports := rfl

@[simp] theorem State.setContext_trapHits (s : State) (h : Hoist) (x : Context) :
    (s.setContext h x).trapHits = s.trapHits := rfl

@[simp] theorem State.setContext_motion (s : State) (h : Hoist) (x : Context) :
    (s.setContext h x).motion = s.motion := rfl

@[simp] theorem State.setContext_channels (s : State) (h : Hoist) (x : Context) :
    (s.setContext h x).channels = s.channels := rfl

@[simp] theorem State.setContext_contexts (s : State) (h : Hoist) (x : Context) :
    (s.setContext h x).contexts = s.contexts.set h x := rfl

@[simp] theorem State.setContext_owners (s : State) (h : Hoist) (x : Context) :
    (s.setContext h x).owners = s.owners := rfl

@[simp] theorem State.setContext_waiting (s : State) (h : Hoist) (x : Context) :
    (s.setContext h x).waiting = s.waiting := rfl

@[simp] theorem State.setContext_bath (s : State) (h : Hoist) (x : Context) : (s.setContext h x).bath = s.bath := rfl

@[simp] theorem State.setContext_records (s : State) (h : Hoist) (x : Context) :
    (s.setContext h x).records = s.records := rfl

@[simp] theorem State.setContext_nextRecord (s : State) (h : Hoist) (x : Context) :
    (s.setContext h x).nextRecord = s.nextRecord := rfl

@[simp] theorem State.setContext_notices (s : State) (h : Hoist) (x : Context) :
    (s.setContext h x).notices = s.notices := rfl

@[simp] theorem State.setContext_sent (s : State) (h : Hoist) (x : Context) : (s.setContext h x).sent = s.sent := rfl

@[simp] theorem State.setContext_pending (s : State) (h : Hoist) (x : Context) :
    (s.setContext h x).pending = s.pending := rfl

/-! ## `State.setBath` -/

@[simp] theorem State.setBath_tables (s : State) (x : BathMonitor) : (s.setBath x).tables = s.tables := rfl

@[simp] theorem State.setBath_image (s : State) (x : BathMonitor) : (s.setBath x).image = s.image := rfl

@[simp] theorem State.setBath_save (s : State) (x : BathMonitor) : (s.setBath x).save = s.save := rfl

@[simp] theorem State.setBath_storeState (s : State) (x : BathMonitor) :
    (s.setBath x).storeState = s.storeState := rfl

@[simp] theorem State.setBath_restartCause (s : State) (x : BathMonitor) :
    (s.setBath x).restartCause = s.restartCause := rfl

@[simp] theorem State.setBath_serviceAsserted (s : State) (x : BathMonitor) :
    (s.setBath x).serviceAsserted = s.serviceAsserted := rfl

@[simp] theorem State.setBath_now (s : State) (x : BathMonitor) : (s.setBath x).now = s.now := rfl

@[simp] theorem State.setBath_upstreamDamaged (s : State) (x : BathMonitor) :
    (s.setBath x).upstreamDamaged = s.upstreamDamaged := rfl

@[simp] theorem State.setBath_seqCounter (s : State) (x : BathMonitor) :
    (s.setBath x).seqCounter = s.seqCounter := rfl

@[simp] theorem State.setBath_ports (s : State) (x : BathMonitor) : (s.setBath x).ports = s.ports := rfl

@[simp] theorem State.setBath_trapHits (s : State) (x : BathMonitor) : (s.setBath x).trapHits = s.trapHits := rfl

@[simp] theorem State.setBath_motion (s : State) (x : BathMonitor) : (s.setBath x).motion = s.motion := rfl

@[simp] theorem State.setBath_channels (s : State) (x : BathMonitor) : (s.setBath x).channels = s.channels := rfl

@[simp] theorem State.setBath_contexts (s : State) (x : BathMonitor) : (s.setBath x).contexts = s.contexts := rfl

@[simp] theorem State.setBath_owners (s : State) (x : BathMonitor) : (s.setBath x).owners = s.owners := rfl

@[simp] theorem State.setBath_waiting (s : State) (x : BathMonitor) : (s.setBath x).waiting = s.waiting := rfl

@[simp] theorem State.setBath_bath (s : State) (x : BathMonitor) : (s.setBath x).bath = x := rfl

@[simp] theorem State.setBath_records (s : State) (x : BathMonitor) : (s.setBath x).records = s.records := rfl

@[simp] theorem State.setBath_nextRecord (s : State) (x : BathMonitor) :
    (s.setBath x).nextRecord = s.nextRecord := rfl

@[simp] theorem State.setBath_notices (s : State) (x : BathMonitor) : (s.setBath x).notices = s.notices := rfl

@[simp] theorem State.setBath_sent (s : State) (x : BathMonitor) : (s.setBath x).sent = s.sent := rfl

@[simp] theorem State.setBath_pending (s : State) (x : BathMonitor) : (s.setBath x).pending = s.pending := rfl

/-! ## `State.setJobs` -/

@[simp] theorem State.setJobs_tables (s : State) (x : List Job) :
    (s.setJobs x).tables = { s.tables with jobs := x } := rfl

@[simp] theorem State.setJobs_image (s : State) (x : List Job) : (s.setJobs x).image = s.image := rfl

@[simp] theorem State.setJobs_save (s : State) (x : List Job) : (s.setJobs x).save = s.save := rfl

@[simp] theorem State.setJobs_storeState (s : State) (x : List Job) : (s.setJobs x).storeState = s.storeState := rfl

@[simp] theorem State.setJobs_restartCause (s : State) (x : List Job) :
    (s.setJobs x).restartCause = s.restartCause := rfl

@[simp] theorem State.setJobs_serviceAsserted (s : State) (x : List Job) :
    (s.setJobs x).serviceAsserted = s.serviceAsserted := rfl

@[simp] theorem State.setJobs_now (s : State) (x : List Job) : (s.setJobs x).now = s.now := rfl

@[simp] theorem State.setJobs_upstreamDamaged (s : State) (x : List Job) :
    (s.setJobs x).upstreamDamaged = s.upstreamDamaged := rfl

@[simp] theorem State.setJobs_seqCounter (s : State) (x : List Job) : (s.setJobs x).seqCounter = s.seqCounter := rfl

@[simp] theorem State.setJobs_ports (s : State) (x : List Job) : (s.setJobs x).ports = s.ports := rfl

@[simp] theorem State.setJobs_trapHits (s : State) (x : List Job) : (s.setJobs x).trapHits = s.trapHits := rfl

@[simp] theorem State.setJobs_motion (s : State) (x : List Job) : (s.setJobs x).motion = s.motion := rfl

@[simp] theorem State.setJobs_channels (s : State) (x : List Job) : (s.setJobs x).channels = s.channels := rfl

@[simp] theorem State.setJobs_contexts (s : State) (x : List Job) : (s.setJobs x).contexts = s.contexts := rfl

@[simp] theorem State.setJobs_owners (s : State) (x : List Job) : (s.setJobs x).owners = s.owners := rfl

@[simp] theorem State.setJobs_waiting (s : State) (x : List Job) : (s.setJobs x).waiting = s.waiting := rfl

@[simp] theorem State.setJobs_bath (s : State) (x : List Job) : (s.setJobs x).bath = s.bath := rfl

@[simp] theorem State.setJobs_records (s : State) (x : List Job) : (s.setJobs x).records = s.records := rfl

@[simp] theorem State.setJobs_nextRecord (s : State) (x : List Job) : (s.setJobs x).nextRecord = s.nextRecord := rfl

@[simp] theorem State.setJobs_notices (s : State) (x : List Job) : (s.setJobs x).notices = s.notices := rfl

@[simp] theorem State.setJobs_sent (s : State) (x : List Job) : (s.setJobs x).sent = s.sent := rfl

@[simp] theorem State.setJobs_pending (s : State) (x : List Job) : (s.setJobs x).pending = s.pending := rfl

/-! ## `State.setJigs` -/

@[simp] theorem State.setJigs_tables (s : State) (x : List Jig) :
    (s.setJigs x).tables = { s.tables with jigs := x } := rfl

@[simp] theorem State.setJigs_image (s : State) (x : List Jig) : (s.setJigs x).image = s.image := rfl

@[simp] theorem State.setJigs_save (s : State) (x : List Jig) : (s.setJigs x).save = s.save := rfl

@[simp] theorem State.setJigs_storeState (s : State) (x : List Jig) : (s.setJigs x).storeState = s.storeState := rfl

@[simp] theorem State.setJigs_restartCause (s : State) (x : List Jig) :
    (s.setJigs x).restartCause = s.restartCause := rfl

@[simp] theorem State.setJigs_serviceAsserted (s : State) (x : List Jig) :
    (s.setJigs x).serviceAsserted = s.serviceAsserted := rfl

@[simp] theorem State.setJigs_now (s : State) (x : List Jig) : (s.setJigs x).now = s.now := rfl

@[simp] theorem State.setJigs_upstreamDamaged (s : State) (x : List Jig) :
    (s.setJigs x).upstreamDamaged = s.upstreamDamaged := rfl

@[simp] theorem State.setJigs_seqCounter (s : State) (x : List Jig) : (s.setJigs x).seqCounter = s.seqCounter := rfl

@[simp] theorem State.setJigs_ports (s : State) (x : List Jig) : (s.setJigs x).ports = s.ports := rfl

@[simp] theorem State.setJigs_trapHits (s : State) (x : List Jig) : (s.setJigs x).trapHits = s.trapHits := rfl

@[simp] theorem State.setJigs_motion (s : State) (x : List Jig) : (s.setJigs x).motion = s.motion := rfl

@[simp] theorem State.setJigs_channels (s : State) (x : List Jig) : (s.setJigs x).channels = s.channels := rfl

@[simp] theorem State.setJigs_contexts (s : State) (x : List Jig) : (s.setJigs x).contexts = s.contexts := rfl

@[simp] theorem State.setJigs_owners (s : State) (x : List Jig) : (s.setJigs x).owners = s.owners := rfl

@[simp] theorem State.setJigs_waiting (s : State) (x : List Jig) : (s.setJigs x).waiting = s.waiting := rfl

@[simp] theorem State.setJigs_bath (s : State) (x : List Jig) : (s.setJigs x).bath = s.bath := rfl

@[simp] theorem State.setJigs_records (s : State) (x : List Jig) : (s.setJigs x).records = s.records := rfl

@[simp] theorem State.setJigs_nextRecord (s : State) (x : List Jig) : (s.setJigs x).nextRecord = s.nextRecord := rfl

@[simp] theorem State.setJigs_notices (s : State) (x : List Jig) : (s.setJigs x).notices = s.notices := rfl

@[simp] theorem State.setJigs_sent (s : State) (x : List Jig) : (s.setJigs x).sent = s.sent := rfl

@[simp] theorem State.setJigs_pending (s : State) (x : List Jig) : (s.setJigs x).pending = s.pending := rfl

/-! ## `State.setBalance` -/

@[simp] theorem State.setBalance_tables (s : State) (x : Balance) :
    (s.setBalance x).tables = { s.tables with balance := x } := rfl

@[simp] theorem State.setBalance_image (s : State) (x : Balance) : (s.setBalance x).image = s.image := rfl

@[simp] theorem State.setBalance_save (s : State) (x : Balance) : (s.setBalance x).save = s.save := rfl

@[simp] theorem State.setBalance_storeState (s : State) (x : Balance) :
    (s.setBalance x).storeState = s.storeState := rfl

@[simp] theorem State.setBalance_restartCause (s : State) (x : Balance) :
    (s.setBalance x).restartCause = s.restartCause := rfl

@[simp] theorem State.setBalance_serviceAsserted (s : State) (x : Balance) :
    (s.setBalance x).serviceAsserted = s.serviceAsserted := rfl

@[simp] theorem State.setBalance_now (s : State) (x : Balance) : (s.setBalance x).now = s.now := rfl

@[simp] theorem State.setBalance_upstreamDamaged (s : State) (x : Balance) :
    (s.setBalance x).upstreamDamaged = s.upstreamDamaged := rfl

@[simp] theorem State.setBalance_seqCounter (s : State) (x : Balance) :
    (s.setBalance x).seqCounter = s.seqCounter := rfl

@[simp] theorem State.setBalance_ports (s : State) (x : Balance) : (s.setBalance x).ports = s.ports := rfl

@[simp] theorem State.setBalance_trapHits (s : State) (x : Balance) : (s.setBalance x).trapHits = s.trapHits := rfl

@[simp] theorem State.setBalance_motion (s : State) (x : Balance) : (s.setBalance x).motion = s.motion := rfl

@[simp] theorem State.setBalance_channels (s : State) (x : Balance) : (s.setBalance x).channels = s.channels := rfl

@[simp] theorem State.setBalance_contexts (s : State) (x : Balance) : (s.setBalance x).contexts = s.contexts := rfl

@[simp] theorem State.setBalance_owners (s : State) (x : Balance) : (s.setBalance x).owners = s.owners := rfl

@[simp] theorem State.setBalance_waiting (s : State) (x : Balance) : (s.setBalance x).waiting = s.waiting := rfl

@[simp] theorem State.setBalance_bath (s : State) (x : Balance) : (s.setBalance x).bath = s.bath := rfl

@[simp] theorem State.setBalance_records (s : State) (x : Balance) : (s.setBalance x).records = s.records := rfl

@[simp] theorem State.setBalance_nextRecord (s : State) (x : Balance) :
    (s.setBalance x).nextRecord = s.nextRecord := rfl

@[simp] theorem State.setBalance_notices (s : State) (x : Balance) : (s.setBalance x).notices = s.notices := rfl

@[simp] theorem State.setBalance_sent (s : State) (x : Balance) : (s.setBalance x).sent = s.sent := rfl

@[simp] theorem State.setBalance_pending (s : State) (x : Balance) : (s.setBalance x).pending = s.pending := rfl

/-! ## `State.setZoneMap` -/

@[simp] theorem State.setZoneMap_tables (s : State) (x : ZoneMap) :
    (s.setZoneMap x).tables = { s.tables with zoneMap := x } := rfl

@[simp] theorem State.setZoneMap_image (s : State) (x : ZoneMap) : (s.setZoneMap x).image = s.image := rfl

@[simp] theorem State.setZoneMap_save (s : State) (x : ZoneMap) : (s.setZoneMap x).save = s.save := rfl

@[simp] theorem State.setZoneMap_storeState (s : State) (x : ZoneMap) :
    (s.setZoneMap x).storeState = s.storeState := rfl

@[simp] theorem State.setZoneMap_restartCause (s : State) (x : ZoneMap) :
    (s.setZoneMap x).restartCause = s.restartCause := rfl

@[simp] theorem State.setZoneMap_serviceAsserted (s : State) (x : ZoneMap) :
    (s.setZoneMap x).serviceAsserted = s.serviceAsserted := rfl

@[simp] theorem State.setZoneMap_now (s : State) (x : ZoneMap) : (s.setZoneMap x).now = s.now := rfl

@[simp] theorem State.setZoneMap_upstreamDamaged (s : State) (x : ZoneMap) :
    (s.setZoneMap x).upstreamDamaged = s.upstreamDamaged := rfl

@[simp] theorem State.setZoneMap_seqCounter (s : State) (x : ZoneMap) :
    (s.setZoneMap x).seqCounter = s.seqCounter := rfl

@[simp] theorem State.setZoneMap_ports (s : State) (x : ZoneMap) : (s.setZoneMap x).ports = s.ports := rfl

@[simp] theorem State.setZoneMap_trapHits (s : State) (x : ZoneMap) : (s.setZoneMap x).trapHits = s.trapHits := rfl

@[simp] theorem State.setZoneMap_motion (s : State) (x : ZoneMap) : (s.setZoneMap x).motion = s.motion := rfl

@[simp] theorem State.setZoneMap_channels (s : State) (x : ZoneMap) : (s.setZoneMap x).channels = s.channels := rfl

@[simp] theorem State.setZoneMap_contexts (s : State) (x : ZoneMap) : (s.setZoneMap x).contexts = s.contexts := rfl

@[simp] theorem State.setZoneMap_owners (s : State) (x : ZoneMap) : (s.setZoneMap x).owners = s.owners := rfl

@[simp] theorem State.setZoneMap_waiting (s : State) (x : ZoneMap) : (s.setZoneMap x).waiting = s.waiting := rfl

@[simp] theorem State.setZoneMap_bath (s : State) (x : ZoneMap) : (s.setZoneMap x).bath = s.bath := rfl

@[simp] theorem State.setZoneMap_records (s : State) (x : ZoneMap) : (s.setZoneMap x).records = s.records := rfl

@[simp] theorem State.setZoneMap_nextRecord (s : State) (x : ZoneMap) :
    (s.setZoneMap x).nextRecord = s.nextRecord := rfl

@[simp] theorem State.setZoneMap_notices (s : State) (x : ZoneMap) : (s.setZoneMap x).notices = s.notices := rfl

@[simp] theorem State.setZoneMap_sent (s : State) (x : ZoneMap) : (s.setZoneMap x).sent = s.sent := rfl

@[simp] theorem State.setZoneMap_pending (s : State) (x : ZoneMap) : (s.setZoneMap x).pending = s.pending := rfl

/-! ## `setNotice` -/

@[simp] theorem setNotice_tables (s : State) (n : Notice) : (setNotice n s).tables = s.tables := rfl

@[simp] theorem setNotice_image (s : State) (n : Notice) : (setNotice n s).image = s.image := rfl

@[simp] theorem setNotice_save (s : State) (n : Notice) : (setNotice n s).save = s.save := rfl

@[simp] theorem setNotice_storeState (s : State) (n : Notice) : (setNotice n s).storeState = s.storeState := rfl

@[simp] theorem setNotice_restartCause (s : State) (n : Notice) : (setNotice n s).restartCause = s.restartCause := rfl

@[simp] theorem setNotice_serviceAsserted (s : State) (n : Notice) :
    (setNotice n s).serviceAsserted = s.serviceAsserted := rfl

@[simp] theorem setNotice_now (s : State) (n : Notice) : (setNotice n s).now = s.now := rfl

@[simp] theorem setNotice_upstreamDamaged (s : State) (n : Notice) :
    (setNotice n s).upstreamDamaged = s.upstreamDamaged := rfl

@[simp] theorem setNotice_seqCounter (s : State) (n : Notice) : (setNotice n s).seqCounter = s.seqCounter := rfl

@[simp] theorem setNotice_ports (s : State) (n : Notice) : (setNotice n s).ports = s.ports := rfl

@[simp] theorem setNotice_trapHits (s : State) (n : Notice) : (setNotice n s).trapHits = s.trapHits := rfl

@[simp] theorem setNotice_motion (s : State) (n : Notice) : (setNotice n s).motion = s.motion := rfl

@[simp] theorem setNotice_channels (s : State) (n : Notice) : (setNotice n s).channels = s.channels := rfl

@[simp] theorem setNotice_contexts (s : State) (n : Notice) : (setNotice n s).contexts = s.contexts := rfl

@[simp] theorem setNotice_owners (s : State) (n : Notice) : (setNotice n s).owners = s.owners := rfl

@[simp] theorem setNotice_waiting (s : State) (n : Notice) : (setNotice n s).waiting = s.waiting := rfl

@[simp] theorem setNotice_bath (s : State) (n : Notice) : (setNotice n s).bath = s.bath := rfl

@[simp] theorem setNotice_records (s : State) (n : Notice) : (setNotice n s).records = s.records := rfl

@[simp] theorem setNotice_nextRecord (s : State) (n : Notice) : (setNotice n s).nextRecord = s.nextRecord := rfl

@[simp] theorem setNotice_notices (s : State) (n : Notice) : (setNotice n s).notices = s.notices.set n true := rfl

@[simp] theorem setNotice_sent (s : State) (n : Notice) : (setNotice n s).sent = s.sent := rfl

@[simp] theorem setNotice_pending (s : State) (n : Notice) : (setNotice n s).pending = s.pending := rfl

/-! ## `setNoticeIf` -/

@[simp] theorem setNoticeIf_tables (s : State) (c : Bool) (n : Notice) :
    (setNoticeIf c n s).tables = s.tables := by cases c <;> rfl

@[simp] theorem setNoticeIf_image (s : State) (c : Bool) (n : Notice) :
    (setNoticeIf c n s).image = s.image := by cases c <;> rfl

@[simp] theorem setNoticeIf_save (s : State) (c : Bool) (n : Notice) :
    (setNoticeIf c n s).save = s.save := by cases c <;> rfl

@[simp] theorem setNoticeIf_storeState (s : State) (c : Bool) (n : Notice) :
    (setNoticeIf c n s).storeState = s.storeState := by cases c <;> rfl

@[simp] theorem setNoticeIf_restartCause (s : State) (c : Bool) (n : Notice) :
    (setNoticeIf c n s).restartCause = s.restartCause := by cases c <;> rfl

@[simp] theorem setNoticeIf_serviceAsserted (s : State) (c : Bool) (n : Notice) :
    (setNoticeIf c n s).serviceAsserted = s.serviceAsserted := by cases c <;> rfl

@[simp] theorem setNoticeIf_now (s : State) (c : Bool) (n : Notice) :
    (setNoticeIf c n s).now = s.now := by cases c <;> rfl

@[simp] theorem setNoticeIf_upstreamDamaged (s : State) (c : Bool) (n : Notice) :
    (setNoticeIf c n s).upstreamDamaged = s.upstreamDamaged := by cases c <;> rfl

@[simp] theorem setNoticeIf_seqCounter (s : State) (c : Bool) (n : Notice) :
    (setNoticeIf c n s).seqCounter = s.seqCounter := by cases c <;> rfl

@[simp] theorem setNoticeIf_ports (s : State) (c : Bool) (n : Notice) :
    (setNoticeIf c n s).ports = s.ports := by cases c <;> rfl

@[simp] theorem setNoticeIf_trapHits (s : State) (c : Bool) (n : Notice) :
    (setNoticeIf c n s).trapHits = s.trapHits := by cases c <;> rfl

@[simp] theorem setNoticeIf_motion (s : State) (c : Bool) (n : Notice) :
    (setNoticeIf c n s).motion = s.motion := by cases c <;> rfl

@[simp] theorem setNoticeIf_channels (s : State) (c : Bool) (n : Notice) :
    (setNoticeIf c n s).channels = s.channels := by cases c <;> rfl

@[simp] theorem setNoticeIf_contexts (s : State) (c : Bool) (n : Notice) :
    (setNoticeIf c n s).contexts = s.contexts := by cases c <;> rfl

@[simp] theorem setNoticeIf_owners (s : State) (c : Bool) (n : Notice) :
    (setNoticeIf c n s).owners = s.owners := by cases c <;> rfl

@[simp] theorem setNoticeIf_waiting (s : State) (c : Bool) (n : Notice) :
    (setNoticeIf c n s).waiting = s.waiting := by cases c <;> rfl

@[simp] theorem setNoticeIf_bath (s : State) (c : Bool) (n : Notice) :
    (setNoticeIf c n s).bath = s.bath := by cases c <;> rfl

@[simp] theorem setNoticeIf_records (s : State) (c : Bool) (n : Notice) :
    (setNoticeIf c n s).records = s.records := by cases c <;> rfl

@[simp] theorem setNoticeIf_nextRecord (s : State) (c : Bool) (n : Notice) :
    (setNoticeIf c n s).nextRecord = s.nextRecord := by cases c <;> rfl

@[simp] theorem setNoticeIf_notices (s : State) (c : Bool) (n : Notice) :
    (setNoticeIf c n s).notices = if c then s.notices.set n true else s.notices := by cases c <;> rfl

@[simp] theorem setNoticeIf_sent (s : State) (c : Bool) (n : Notice) :
    (setNoticeIf c n s).sent = s.sent := by cases c <;> rfl

@[simp] theorem setNoticeIf_pending (s : State) (c : Bool) (n : Notice) :
    (setNoticeIf c n s).pending = s.pending := by cases c <;> rfl

/-! ## `sendUp` -/

@[simp] theorem sendUp_tables (s : State) (f : Frame) : (sendUp f s).tables = s.tables := rfl

@[simp] theorem sendUp_image (s : State) (f : Frame) : (sendUp f s).image = s.image := rfl

@[simp] theorem sendUp_save (s : State) (f : Frame) : (sendUp f s).save = s.save := rfl

@[simp] theorem sendUp_storeState (s : State) (f : Frame) : (sendUp f s).storeState = s.storeState := rfl

@[simp] theorem sendUp_restartCause (s : State) (f : Frame) : (sendUp f s).restartCause = s.restartCause := rfl

@[simp] theorem sendUp_serviceAsserted (s : State) (f : Frame) :
    (sendUp f s).serviceAsserted = s.serviceAsserted := rfl

@[simp] theorem sendUp_now (s : State) (f : Frame) : (sendUp f s).now = s.now := rfl

@[simp] theorem sendUp_upstreamDamaged (s : State) (f : Frame) :
    (sendUp f s).upstreamDamaged = s.upstreamDamaged := rfl

@[simp] theorem sendUp_seqCounter (s : State) (f : Frame) : (sendUp f s).seqCounter = s.seqCounter := rfl

@[simp] theorem sendUp_ports (s : State) (f : Frame) : (sendUp f s).ports = s.ports := rfl

@[simp] theorem sendUp_trapHits (s : State) (f : Frame) : (sendUp f s).trapHits = s.trapHits := rfl

@[simp] theorem sendUp_motion (s : State) (f : Frame) : (sendUp f s).motion = s.motion := rfl

@[simp] theorem sendUp_channels (s : State) (f : Frame) : (sendUp f s).channels = s.channels := rfl

@[simp] theorem sendUp_contexts (s : State) (f : Frame) : (sendUp f s).contexts = s.contexts := rfl

@[simp] theorem sendUp_owners (s : State) (f : Frame) : (sendUp f s).owners = s.owners := rfl

@[simp] theorem sendUp_waiting (s : State) (f : Frame) : (sendUp f s).waiting = s.waiting := rfl

@[simp] theorem sendUp_bath (s : State) (f : Frame) : (sendUp f s).bath = s.bath := rfl

@[simp] theorem sendUp_records (s : State) (f : Frame) : (sendUp f s).records = s.records := rfl

@[simp] theorem sendUp_nextRecord (s : State) (f : Frame) : (sendUp f s).nextRecord = s.nextRecord := rfl

@[simp] theorem sendUp_notices (s : State) (f : Frame) : (sendUp f s).notices = s.notices := rfl

@[simp] theorem sendUp_sent (s : State) (f : Frame) :
    (sendUp f s).sent = s.sent ++ [.up { f with attention := attention s }] := rfl

@[simp] theorem sendUp_pending (s : State) (f : Frame) : (sendUp f s).pending = s.pending := rfl

/-! ## `sendDown` -/

@[simp] theorem sendDown_tables (s : State) (p : Port) (f : Frame) : (sendDown p f s).tables = s.tables := rfl

@[simp] theorem sendDown_image (s : State) (p : Port) (f : Frame) : (sendDown p f s).image = s.image := rfl

@[simp] theorem sendDown_save (s : State) (p : Port) (f : Frame) : (sendDown p f s).save = s.save := rfl

@[simp] theorem sendDown_storeState (s : State) (p : Port) (f : Frame) :
    (sendDown p f s).storeState = s.storeState := rfl

@[simp] theorem sendDown_restartCause (s : State) (p : Port) (f : Frame) :
    (sendDown p f s).restartCause = s.restartCause := rfl

@[simp] theorem sendDown_serviceAsserted (s : State) (p : Port) (f : Frame) :
    (sendDown p f s).serviceAsserted = s.serviceAsserted := rfl

@[simp] theorem sendDown_now (s : State) (p : Port) (f : Frame) : (sendDown p f s).now = s.now := rfl

@[simp] theorem sendDown_upstreamDamaged (s : State) (p : Port) (f : Frame) :
    (sendDown p f s).upstreamDamaged = s.upstreamDamaged := rfl

@[simp] theorem sendDown_seqCounter (s : State) (p : Port) (f : Frame) :
    (sendDown p f s).seqCounter = s.seqCounter := rfl

@[simp] theorem sendDown_ports (s : State) (p : Port) (f : Frame) : (sendDown p f s).ports = s.ports := rfl

@[simp] theorem sendDown_trapHits (s : State) (p : Port) (f : Frame) : (sendDown p f s).trapHits = s.trapHits := rfl

@[simp] theorem sendDown_motion (s : State) (p : Port) (f : Frame) : (sendDown p f s).motion = s.motion := rfl

@[simp] theorem sendDown_channels (s : State) (p : Port) (f : Frame) : (sendDown p f s).channels = s.channels := rfl

@[simp] theorem sendDown_contexts (s : State) (p : Port) (f : Frame) : (sendDown p f s).contexts = s.contexts := rfl

@[simp] theorem sendDown_owners (s : State) (p : Port) (f : Frame) : (sendDown p f s).owners = s.owners := rfl

@[simp] theorem sendDown_waiting (s : State) (p : Port) (f : Frame) : (sendDown p f s).waiting = s.waiting := rfl

@[simp] theorem sendDown_bath (s : State) (p : Port) (f : Frame) : (sendDown p f s).bath = s.bath := rfl

@[simp] theorem sendDown_records (s : State) (p : Port) (f : Frame) : (sendDown p f s).records = s.records := rfl

@[simp] theorem sendDown_nextRecord (s : State) (p : Port) (f : Frame) :
    (sendDown p f s).nextRecord = s.nextRecord := rfl

@[simp] theorem sendDown_notices (s : State) (p : Port) (f : Frame) : (sendDown p f s).notices = s.notices := rfl

@[simp] theorem sendDown_sent (s : State) (p : Port) (f : Frame) :
    (sendDown p f s).sent = s.sent ++ [.down p { f with attention := 0 }] := rfl

@[simp] theorem sendDown_pending (s : State) (p : Port) (f : Frame) : (sendDown p f s).pending = s.pending := rfl

/-! ## `advanceSeq` -/

@[simp] theorem advanceSeq_tables (s : State) : (advanceSeq s).tables = s.tables := rfl

@[simp] theorem advanceSeq_image (s : State) : (advanceSeq s).image = s.image := rfl

@[simp] theorem advanceSeq_save (s : State) : (advanceSeq s).save = s.save := rfl

@[simp] theorem advanceSeq_storeState (s : State) : (advanceSeq s).storeState = s.storeState := rfl

@[simp] theorem advanceSeq_restartCause (s : State) : (advanceSeq s).restartCause = s.restartCause := rfl

@[simp] theorem advanceSeq_serviceAsserted (s : State) : (advanceSeq s).serviceAsserted = s.serviceAsserted := rfl

@[simp] theorem advanceSeq_now (s : State) : (advanceSeq s).now = s.now := rfl

@[simp] theorem advanceSeq_upstreamDamaged (s : State) : (advanceSeq s).upstreamDamaged = s.upstreamDamaged := rfl

@[simp] theorem advanceSeq_seqCounter (s : State) : (advanceSeq s).seqCounter = s.seqCounter + 1 := rfl

@[simp] theorem advanceSeq_ports (s : State) : (advanceSeq s).ports = s.ports := rfl

@[simp] theorem advanceSeq_trapHits (s : State) : (advanceSeq s).trapHits = s.trapHits := rfl

@[simp] theorem advanceSeq_motion (s : State) : (advanceSeq s).motion = s.motion := rfl

@[simp] theorem advanceSeq_channels (s : State) : (advanceSeq s).channels = s.channels := rfl

@[simp] theorem advanceSeq_contexts (s : State) : (advanceSeq s).contexts = s.contexts := rfl

@[simp] theorem advanceSeq_owners (s : State) : (advanceSeq s).owners = s.owners := rfl

@[simp] theorem advanceSeq_waiting (s : State) : (advanceSeq s).waiting = s.waiting := rfl

@[simp] theorem advanceSeq_bath (s : State) : (advanceSeq s).bath = s.bath := rfl

@[simp] theorem advanceSeq_records (s : State) : (advanceSeq s).records = s.records := rfl

@[simp] theorem advanceSeq_nextRecord (s : State) : (advanceSeq s).nextRecord = s.nextRecord := rfl

@[simp] theorem advanceSeq_notices (s : State) : (advanceSeq s).notices = s.notices := rfl

@[simp] theorem advanceSeq_sent (s : State) : (advanceSeq s).sent = s.sent := rfl

@[simp] theorem advanceSeq_pending (s : State) : (advanceSeq s).pending = s.pending := rfl

/-! ## `startSave` -/

@[simp] theorem startSave_tables (s : State) : (startSave s).tables = s.tables := rfl

@[simp] theorem startSave_image (s : State) : (startSave s).image = none := rfl

@[simp] theorem startSave_save (s : State) :
    (startSave s).save = some { snapshot := s.tables, deadline := s.now + 400 } := rfl

@[simp] theorem startSave_storeState (s : State) : (startSave s).storeState = s.storeState := rfl

@[simp] theorem startSave_restartCause (s : State) : (startSave s).restartCause = s.restartCause := rfl

@[simp] theorem startSave_serviceAsserted (s : State) : (startSave s).serviceAsserted = s.serviceAsserted := rfl

@[simp] theorem startSave_now (s : State) : (startSave s).now = s.now := rfl

@[simp] theorem startSave_upstreamDamaged (s : State) : (startSave s).upstreamDamaged = s.upstreamDamaged := rfl

@[simp] theorem startSave_seqCounter (s : State) : (startSave s).seqCounter = s.seqCounter := rfl

@[simp] theorem startSave_ports (s : State) : (startSave s).ports = s.ports := rfl

@[simp] theorem startSave_trapHits (s : State) : (startSave s).trapHits = s.trapHits := rfl

@[simp] theorem startSave_motion (s : State) : (startSave s).motion = s.motion := rfl

@[simp] theorem startSave_channels (s : State) : (startSave s).channels = s.channels := rfl

@[simp] theorem startSave_contexts (s : State) : (startSave s).contexts = s.contexts := rfl

@[simp] theorem startSave_owners (s : State) : (startSave s).owners = s.owners := rfl

@[simp] theorem startSave_waiting (s : State) : (startSave s).waiting = s.waiting := rfl

@[simp] theorem startSave_bath (s : State) : (startSave s).bath = s.bath := rfl

@[simp] theorem startSave_records (s : State) : (startSave s).records = s.records := rfl

@[simp] theorem startSave_nextRecord (s : State) : (startSave s).nextRecord = s.nextRecord := rfl

@[simp] theorem startSave_notices (s : State) : (startSave s).notices = s.notices := rfl

@[simp] theorem startSave_sent (s : State) : (startSave s).sent = s.sent := rfl

@[simp] theorem startSave_pending (s : State) : (startSave s).pending = s.pending := rfl

end Sys2Proof.Machine
end

