-- ==== Sys2Proof/Laws/Sending.lean ====
section
/-! SUPPORT. What the requests that the KD-40 makes itself can change: one lemma per operation, each naming every part of
the state that it may touch, so that the rest is seen to be as it was. -/

namespace Sys2Proof.Machine

@[simp] theorem upFrames_append (l m : List Sent) : upFrames (l ++ m) = upFrames l ++ upFrames m := by
  induction l with
  | nil => rfl
  | cons x l ih => cases x <;> simp [upFrames, ih]

/-- A local reply for a slot is what `slotReply` says, and nothing else changes. -/
theorem answerSlot_eq (sl : Slot) (lc : LocalCode) (s : State) :
    answerSlot sl lc s = { s with sent := s.sent ++ slotReply (some sl) lc s } := by
  cases h : sl.origin <;> simp [answerSlot, slotReply, h, localReply, sendUp, localFrame]

/-- A request abandoned frees the slot and is answered if it was forwarded. -/
theorem abandonSlot_eq (p : Port) (lc : LocalCode) (s : State) :
    abandonSlot p lc s = { s with
      sent := s.sent ++ slotReply (s.ports.get p).slot lc s
      ports := s.ports.set p { s.ports.get p with slot := none } } := by
  cases h : (s.ports.get p).slot with
  | none =>
    have hp : { s.ports.get p with slot := none } = s.ports.get p := by rw [← h]
    simp [abandonSlot, h, slotReply, hp]
  | some sl => simp [abandonSlot, h, answerSlot_eq, State.setPort]; rfl

/-- A request sent in a slot: the frame, the next sequence number and the slot. -/
theorem sendInSlot_eq (p : Port) (dest code : Byte) (payload : List Byte) (s : State) :
    sendInSlot p dest code payload s = { s with
      sent := s.sent ++ [.down p (madeFrame dest code payload s)]
      seqCounter := s.seqCounter + 1
      ports := s.ports.set p { s.ports.get p with slot := filledSlot p .generated dest s.seqCounter code s } } := rfl

/-- A stop to a station: the request in the slot, and the hoist's applied values, sender and command timer. -/
theorem sendStop_some (h : Hoist) (sender : MotionSender) (a : Nat) (s : State)
    (ha : (s.tables.hoists.get h).station = some a) :
    sendStop h sender s = { s with
      sent := s.sent ++ [.down h.port (madeFrame (BitVec.ofNat 8 a) 0x31 [0, 0, 0, 0, 0, 0] s)]
      seqCounter := s.seqCounter + 1
      ports := s.ports.set h.port { s.ports.get h.port with
        slot := filledSlot h.port .generated (BitVec.ofNat 8 a) s.seqCounter 0x31 s }
      motion := s.motion.set h { s.motion.get h with
        applied := ⟨.stop, 0, .stop, 0⟩, sender
        commandTimer := some (s.now + (s.tables.hoists.get h).commandTimeout) } } := by
  simp only [sendStop, ha, sendInSlot_eq]
  rfl

/-- No stop is sent to a hoist without a station. -/
theorem sendStop_none (h : Hoist) (sender : MotionSender) (s : State) (ha : (s.tables.hoists.get h).station = none) :
    sendStop h sender s = s := by simp [sendStop, ha]

/-- A poll of the bath station: the request in port K's slot, the time of the poll and the poll timer. -/
theorem sendPoll_some (a : Nat) (s : State) (ha : s.tables.bath.station = some a) :
    sendPoll s = { s with
      sent := s.sent ++ [.down .k (madeFrame (BitVec.ofNat 8 a) 0x50 [] s)]
      seqCounter := s.seqCounter + 1
      ports := { s.ports with k := { s.ports.k with
        slot := filledSlot .k .generated (BitVec.ofNat 8 a) s.seqCounter 0x50 s } }
      bath := { s.bath with
        lastPoll := some s.now
        pollTimer := some
          (s.now + if s.bath.mode = .continuous then 200 else s.tables.bath.pollInterval * 1000) } } := by
  have hl : pollLength s = if s.bath.mode = .continuous then 200 else s.tables.bath.pollInterval * 1000 := by
    cases h : s.bath.mode <;> simp [pollLength, h, Config.continuousPoll]
  simp only [sendPoll, ha, sendInSlot_eq, hl]
  rfl

/-- What making a poll can change: frames down, the sequence counter, port K and the bath monitor. -/
def PollOnly (s t : State) : Prop :=
  ∃ (l : List Sent) (n : Byte) (u : PortUnit) (b : BathMonitor), upFrames l = [] ∧
    t = { s with sent := s.sent ++ l, seqCounter := n, ports := { s.ports with k := u }, bath := b }

theorem PollOnly.refl (s : State) : PollOnly s s := ⟨[], s.seqCounter, s.ports.k, s.bath, rfl, by simp⟩

theorem PollOnly.trans {s t u : State} (h : PollOnly s t) (h' : PollOnly t u) : PollOnly s u := by
  obtain ⟨l, n, v, b, hl, rfl⟩ := h
  obtain ⟨l', n', v', b', hl', rfl⟩ := h'
  exact ⟨l ++ l', n', v', b', by simp [hl, hl'], by simp⟩

theorem pollOnly_setBath (s : State) (b : BathMonitor) : PollOnly s (s.setBath b) :=
  ⟨[], s.seqCounter, s.ports.k, b, rfl, by simp [State.setBath]⟩

theorem sendPoll_pollOnly (s : State) : PollOnly s (sendPoll s) := by
  cases h : s.tables.bath.station with
  | none => simpa [sendPoll, h] using PollOnly.refl s
  | some a => exact ⟨_, _, _, _, rfl, sendPoll_some a s h⟩

theorem pollDue_pollOnly (s : State) : PollOnly s (pollDue s) := by
  unfold pollDue generatedDue
  split
  · split
    · simpa [sendGenerated, Port.hoist] using sendPoll_pollOnly s
    · exact ⟨[], s.seqCounter, { s.ports.k with pending := some .poll }, s.bath, rfl,
        by simp [State.setPort, PerPort.set]⟩
  · exact PollOnly.refl s

/-- The change of the poll mode changes what a poll can change, and nothing else. -/
theorem syncPollMode_pollOnly (s : State) : PollOnly s (syncPollMode s) := by
  unfold syncPollMode
  split
  · exact (pollOnly_setBath s _).trans (pollDue_pollOnly _)
  · have hs : ∀ b : BathMonitor, PollOnly s ((s.setBath { s.bath with mode := .periodic }).setBath b) :=
      fun b => (pollOnly_setBath s _).trans (pollOnly_setBath _ b)
    simp only [toPeriodic]
    split
    · exact hs _
    · split
      · exact hs _
      · split
        · split
          · exact hs _
          · exact (hs _).trans (pollDue_pollOnly _)
        · exact (hs _).trans (pollDue_pollOnly _)
  · exact PollOnly.refl s

/-- The poll mode is CONTINUOUS exactly while the bath is active, after it has been brought in line. -/
theorem pollDue_mode (s : State) : (pollDue s).bath.mode = s.bath.mode := by
  unfold pollDue generatedDue
  split
  · split
    · cases h : s.tables.bath.station <;> simp_all [sendGenerated, Port.hoist, sendPoll]
    · rfl
  · rfl

theorem syncPollMode_ok (s : State) : pollModeOk (syncPollMode s) = true := by
  have hb : bathActive (syncPollMode s) = bathActive s := by
    obtain ⟨l, n, u, b, _, h⟩ := syncPollMode_pollOnly s
    rw [h]; rfl
  unfold pollModeOk
  rw [hb]
  unfold syncPollMode
  cases ha : bathActive s <;> cases hm : s.bath.mode
  · simp only [toPeriodic]
    split
    · simp
    · split
      · simp
      · split
        · split
          · simp
          · simp [pollDue_mode]
        · simp [pollDue_mode]
  · simp [hm]
  · simp [hm]
  · simp [toContinuous, pollDue_mode]

/-- The poll mode in line already stays as it is. -/
theorem syncPollMode_of_ok (s : State) (h : pollModeOk s = true) : syncPollMode s = s := by
  unfold syncPollMode pollModeOk at *
  cases ha : bathActive s <;> cases hm : s.bath.mode <;> simp_all

/-- What a generated request on a port can change. -/
def GeneratedOnly (p : Port) (s t : State) : Prop :=
  ∃ (l : List Sent) (n : Byte) (u : PortUnit) (m : PerHoist HoistMotion) (b : BathMonitor) (f : NoticeFlags),
    upFrames l = [] ∧ t = { s with
      sent := s.sent ++ l, seqCounter := n, ports := s.ports.set p u, motion := m, bath := b, notices := f }

theorem GeneratedOnly.refl (p : Port) (s : State) : GeneratedOnly p s s :=
  ⟨[], s.seqCounter, s.ports.get p, s.motion, s.bath, s.notices, rfl, by simp⟩

theorem GeneratedOnly.trans {p : Port} {s t u : State} (h : GeneratedOnly p s t) (h' : GeneratedOnly p t u) :
    GeneratedOnly p s u := by
  obtain ⟨l, n, v, m, b, f, hl, rfl⟩ := h
  obtain ⟨l', n', v', m', b', f', hl', rfl⟩ := h'
  exact ⟨l ++ l', n', v', m', b', f', by simp [hl, hl'], by simp⟩

theorem generatedOnly_setPort (p : Port) (s : State) (u : PortUnit) : GeneratedOnly p s (s.setPort p u) :=
  ⟨[], s.seqCounter, u, s.motion, s.bath, s.notices, rfl, by simp [State.setPort]⟩

theorem sendStop_generatedOnly (h : Hoist) (sender : MotionSender) (s : State) :
    GeneratedOnly h.port s (sendStop h sender s) := by
  cases ha : (s.tables.hoists.get h).station with
  | none => rw [sendStop_none h sender s ha]; exact GeneratedOnly.refl _ s
  | some a => exact ⟨_, _, _, _, _, _, rfl, sendStop_some h sender a s ha⟩

theorem sendGenerated_generatedOnly (p : Port) (g : GenRequest) (s : State) :
    GeneratedOnly p s (sendGenerated p g s) := by
  have notice : ∀ (n : Notice) (t : State), GeneratedOnly p t (setNotice n t) := fun n t =>
    ⟨[], t.seqCounter, t.ports.get p, t.motion, t.bath, t.notices.set n true, rfl, by simp [setNotice]⟩
  cases p <;> cases g <;> simp only [sendGenerated, Port.hoist]
  · split
    · exact (sendStop_generatedOnly .h1 .timeoutStop s).trans (notice _ _)
    · exact GeneratedOnly.refl _ s
  · exact sendStop_generatedOnly .h1 .isolationStop s
  · exact GeneratedOnly.refl _ s
  · split
    · exact (sendStop_generatedOnly .h2 .timeoutStop s).trans (notice _ _)
    · exact GeneratedOnly.refl _ s
  · exact sendStop_generatedOnly .h2 .isolationStop s
  · exact GeneratedOnly.refl _ s
  · exact GeneratedOnly.refl _ s
  · exact GeneratedOnly.refl _ s
  · obtain ⟨l, n, u, b, hl, h⟩ := sendPoll_pollOnly s
    exact ⟨l, n, u, s.motion, b, s.notices, hl, by rw [h]; rfl⟩

theorem generatedDue_generatedOnly (p : Port) (g : GenRequest) (s : State) :
    GeneratedOnly p s (generatedDue p g s) := by
  unfold generatedDue
  split
  · exact sendGenerated_generatedOnly p g s
  · exact generatedOnly_setPort p s _

theorem sendPending_generatedOnly (p : Port) (s : State) : GeneratedOnly p s (sendPending p s) := by
  unfold sendPending
  split
  · split
    · exact (generatedOnly_setPort p s _).trans (sendGenerated_generatedOnly p _ _)
    · exact GeneratedOnly.refl p s
  · exact GeneratedOnly.refl p s

end Sys2Proof.Machine
end

