-- ==== Sys2Proof/Laws/Dips.lean ====
section
/-! SUPPORT. What the operations of a dip can change: contexts, claims, closes and samples. -/

namespace Sys2Proof.Machine

/-! ## Contexts and pairs -/

/-- The contexts that take a hoist's transitions, changed by `f`. -/
theorem modContexts_members (h : Hoist) (f : Context → Context) (s : State) :
    modContexts (members h s) f s = changeDip h f s := by
  unfold members changeDip sharesDip
  cases hj : joint s <;> cases h <;> simp [modContexts, State.setContext, PerHoist.set]

/-- A context of the dip is changed, another is not. -/
theorem changeDip_get (h x : Hoist) (f : Context → Context) (s : State) :
    (changeDip h f s).contexts.get x = if sharesDip h x s then f (s.contexts.get x) else s.contexts.get x := by
  cases x <;> rfl

@[simp] theorem sharesDip_self (h : Hoist) (s : State) : sharesDip h h s = true := by simp [sharesDip]

/-- Whether both contexts are driven as one pair depends on the contexts alone. -/
theorem joint_congr {s t : State} (h : t.contexts = s.contexts) : joint t = joint s := by simp [joint, h]

/-- Contexts changed in a list change nothing else. -/
theorem modContexts_eq (ms : List Hoist) (f : Context → Context) (s : State) :
    ∃ c, modContexts ms f s = { s with contexts := c } := by
  induction ms generalizing s with
  | nil => exact ⟨s.contexts, rfl⟩
  | cons h ms ih =>
    obtain ⟨c, hc⟩ := ih (s.setContext h (f (s.contexts.get h)))
    exact ⟨c, hc⟩

/-! ## Zones -/

/-- What the zone arbiter can change: owners, the waiting claim, and contexts. -/
def ClaimsOnly (s t : State) : Prop := ∃ o w c, t = { s with owners := o, waiting := w, contexts := c }

theorem ClaimsOnly.trans {s t u : State} (h : ClaimsOnly s t) (h' : ClaimsOnly t u) : ClaimsOnly s u := by
  obtain ⟨o, w, c, rfl⟩ := h
  obtain ⟨o', w', c', rfl⟩ := h'
  exact ⟨o', w', c', rfl⟩

theorem modContexts_claimsOnly (ms : List Hoist) (f : Context → Context) (s : State) :
    ClaimsOnly s (modContexts ms f s) := by
  obtain ⟨c, hc⟩ := modContexts_eq ms f s
  exact ⟨s.owners, s.waiting, c, hc⟩

theorem submitClaim_claimsOnly (o : Owner) (first last : Nat) (s : State) :
    ClaimsOnly s (submitClaim o first last s) := by
  unfold submitClaim
  split <;> exact ClaimsOnly.trans ⟨_, _, _, rfl⟩ (modContexts_claimsOnly _ _ _)

theorem grantWaiting_claimsOnly (s : State) : ClaimsOnly s (grantWaiting s) := by
  unfold grantWaiting
  split
  · split
    · exact ClaimsOnly.trans ⟨_, _, _, rfl⟩ (modContexts_claimsOnly _ _ _)
    · exact ⟨_, _, _, rfl⟩
  · exact ⟨_, _, _, rfl⟩

theorem releaseZones_claimsOnly (o : Owner) (s : State) : ClaimsOnly s (releaseZones o s) :=
  ClaimsOnly.trans ⟨_, _, _, rfl⟩ (grantWaiting_claimsOnly _)

theorem releaseClaim_claimsOnly (h : Hoist) (s : State) : ClaimsOnly s (releaseClaim h s) := by
  unfold releaseClaim
  split
  · exact (modContexts_claimsOnly _ _ _).trans (releaseZones_claimsOnly _ _)
  · exact ⟨_, _, _, rfl⟩

/-! ## Closes -/

/-- What a close can change: tables, records, the next record number and notices. -/
def AccountsOnly (s t : State) : Prop :=
  ∃ x r n f, t = { s with tables := x, records := r, nextRecord := n, notices := f }

theorem AccountsOnly.trans {s t u : State} (h : AccountsOnly s t) (h' : AccountsOnly t u) : AccountsOnly s u := by
  obtain ⟨x, r, n, f, rfl⟩ := h
  obtain ⟨x', r', n', f', rfl⟩ := h'
  exact ⟨x', r', n', f', rfl⟩

theorem setNoticeIf_accountsOnly (c : Bool) (n : Notice) (s : State) : AccountsOnly s (setNoticeIf c n s) := by
  cases c <;> exact ⟨_, _, _, _, rfl⟩

/-- The record joins the queue as its newest with the next sequence number. -/
theorem writeRecord_records (r : Record) (s : State) :
    (writeRecord r s).records = s.records ++ [{ r with seq := s.nextRecord }] := by simp [writeRecord]

theorem writeRecord_accountsOnly (r : Record) (s : State) : AccountsOnly s (writeRecord r s) :=
  AccountsOnly.trans ⟨_, _, _, _, rfl⟩ (setNoticeIf_accountsOnly _ _ _)

theorem chargeUnweighed_accountsOnly (t : TagArgs) (s : State) : AccountsOnly s (chargeUnweighed t s) :=
  ⟨_, _, _, _, rfl⟩

theorem closeNormal_accountsOnly (c : Context) (t : TagArgs) (h : RecordHoist) (w : Int) (s : State) :
    AccountsOnly s (closeNormal c t h w s) := by
  unfold closeNormal
  refine AccountsOnly.trans ?_ (setNoticeIf_accountsOnly _ _ _)
  refine AccountsOnly.trans ?_ (setNoticeIf_accountsOnly _ _ _)
  refine AccountsOnly.trans ?_ ⟨_, _, _, _, rfl⟩
  refine AccountsOnly.trans ?_ (setNoticeIf_accountsOnly _ _ _)
  refine AccountsOnly.trans ?_ (setNoticeIf_accountsOnly _ _ _)
  exact (writeRecord_accountsOnly _ s).trans ⟨_, _, _, _, rfl⟩

theorem closeUnweighed_accountsOnly (c : Context) (t : TagArgs) (h : RecordHoist) (s : State) :
    AccountsOnly s (closeUnweighed c t h s) :=
  (writeRecord_accountsOnly _ s).trans ((chargeUnweighed_accountsOnly t _).trans ⟨_, _, _, _, rfl⟩)

theorem closeAborted_accountsOnly (c : Context) (t : TagArgs) (h : RecordHoist) (s : State) :
    AccountsOnly s (closeAborted c t h s) := by
  unfold closeAborted
  refine AccountsOnly.trans ?_ ⟨_, _, _, _, rfl⟩
  split
  · exact writeRecord_accountsOnly _ s
  · exact (writeRecord_accountsOnly _ s).trans (chargeUnweighed_accountsOnly t _)

/-! ## Samples -/

/-- A dip whose bottom is absent has no top either (R72, R111). -/
theorem dipTop_none_of_dipBottom {h : Hoist} {s : State} (e : dipBottom h s = none) : dipTop h s = none := by
  unfold dipBottom at e
  unfold dipTop
  have own : ∀ x, ownBottom x s = none → ownTop x s = none := by
    intro x h'
    unfold ownTop
    rw [h']
    cases (s.contexts.get x).tag <;> rfl
  have absent : ∀ f (x y : Option Int), both f x y = none ↔ x = none ∨ y = none := by
    intro f x y
    cases x <;> cases y <;> simp [both]
  split at e <;> rename_i j <;> simp only [j, if_true, if_false, Bool.false_eq_true]
  · rw [absent] at e ⊢
    exact e.imp (own _) (own _)
  · exact own _ e

/-- What a dip's sample, timer or abort can change, apart from the poll schedule. -/
def DipOnly (s t : State) : Prop :=
  ∃ x ch c o w r n f, t = { s with
    tables := x, channels := ch, contexts := c, owners := o, waiting := w, records := r, nextRecord := n, notices := f }

theorem DipOnly.trans {s t u : State} (h : DipOnly s t) (h' : DipOnly t u) : DipOnly s u := by
  obtain ⟨x, ch, c, o, w, r, n, f, rfl⟩ := h
  obtain ⟨x', ch', c', o', w', r', n', f', rfl⟩ := h'
  exact ⟨x', ch', c', o', w', r', n', f', rfl⟩

theorem DipOnly.refl (s : State) : DipOnly s s := ⟨_, _, _, _, _, _, _, _, rfl⟩

theorem ClaimsOnly.dipOnly {s t : State} (h : ClaimsOnly s t) : DipOnly s t := by
  obtain ⟨o, w, c, rfl⟩ := h
  exact ⟨_, _, _, _, _, _, _, _, rfl⟩

theorem AccountsOnly.dipOnly {s t : State} (h : AccountsOnly s t) : DipOnly s t := by
  obtain ⟨x, r, n, f, rfl⟩ := h
  exact ⟨_, _, _, _, _, _, _, _, rfl⟩

theorem modContexts_dipOnly (ms : List Hoist) (f : Context → Context) (s : State) : DipOnly s (modContexts ms f s) :=
  (modContexts_claimsOnly ms f s).dipOnly

theorem enterWeighing_dipOnly (ms : List Hoist) (pr : Profile) (s : State) : DipOnly s (enterWeighing ms pr s) := by
  have fold : ∀ s : State,
      DipOnly s (ms.foldl (fun s h => s.setChannel h { s.channels.get h with settle := 0 }) s) := by
    induction ms with
    | nil => exact DipOnly.refl
    | cons h ms ih => exact fun s => DipOnly.trans ⟨_, _, _, _, _, _, _, _, rfl⟩ (ih _)
  unfold enterWeighing
  exact (fold s).trans (modContexts_dipOnly _ _ _)

theorem enterDraining_dipOnly (ms : List Hoist) (pr : Profile) (b : Bool) (s : State) :
    DipOnly s (enterDraining ms pr b s) := by
  unfold enterDraining
  split
  · exact (modContexts_dipOnly _ _ _).trans (enterWeighing_dipOnly _ _ _)
  · exact modContexts_dipOnly _ _ _

theorem dipNormal_dipOnly (h : Hoist) (w : Int) (s : State) : DipOnly s (dipNormal h w s) := by
  unfold dipNormal finishDip
  split
  · exact (closeNormal_accountsOnly _ _ _ _ s).dipOnly.trans
      ((releaseClaim_claimsOnly h _).dipOnly.trans (modContexts_dipOnly _ _ _))
  · exact DipOnly.refl s

/-- The transition test of a sample changes the dip's own parts, and nothing else. -/
theorem transitionTest_dipOnly (h : Hoist) (s : State) : DipOnly s (transitionTest h s) := by
  have mc := fun ms f => modContexts_dipOnly ms f s
  unfold transitionTest
  split
  · exact DipOnly.refl s
  · unfold sampleJigWeigh
    split
    · split
      · exact ⟨_, _, _, _, _, _, _, _, rfl⟩
      · exact DipOnly.refl s
    · exact DipOnly.refl s
  · unfold sampleTagged
    split
    · split
      · split <;> exact mc _ _
      · exact DipOnly.refl s
    · exact DipOnly.refl s
  · unfold sampleReady
    split
    · split
      · exact (submitClaim_claimsOnly _ _ _ s).dipOnly
      · exact DipOnly.refl s
    · exact DipOnly.refl s
  · exact DipOnly.refl s
  · unfold sampleLowering
    split
    · split
      · exact mc _ _
      · exact DipOnly.refl s
    · exact DipOnly.refl s
  · unfold sampleEntering
    split
    · split
      · exact mc _ _
      · split
        · exact enterDraining_dipOnly _ _ _ s
        · exact DipOnly.refl s
    · exact DipOnly.refl s
  · unfold sampleImmersed
    split
    · split
      · exact mc _ _
      · exact DipOnly.refl s
    · exact DipOnly.refl s
  · unfold sampleWithdrawing
    split
    · split
      · exact mc _ _
      · split
        · exact enterDraining_dipOnly _ _ _ s
        · exact DipOnly.refl s
    · exact DipOnly.refl s
  · exact DipOnly.refl s
  · have wet : ∀ u : State, DipOnly s u → DipOnly s (match dipFiltered h u with
        | some f => if dipSettled h u then dipNormal h f u else u
        | none => u) := by
      intro u hu
      split
      · split
        · exact hu.trans (dipNormal_dipOnly h _ u)
        · exact hu
      · exact hu
    refine wet _ ?_
    split
    · split
      · exact (releaseClaim_claimsOnly h s).dipOnly
      · exact DipOnly.refl s
    · exact DipOnly.refl s
  · unfold sampleAbandoned
    split
    · split
      · have rz : ∀ o c, DipOnly s (releaseZones o (s.setContext h c)) := fun o c =>
          DipOnly.trans ⟨_, _, _, _, _, _, _, _, rfl⟩ (releaseZones_claimsOnly o _).dipOnly
        simp only
        split
        · split
          · exact ⟨_, _, _, _, _, _, _, _, rfl⟩
          · exact rz _ _
        · exact rz _ _
      · exact DipOnly.refl s
    · exact DipOnly.refl s

/-- The float test is made exactly at a sample that finds the context in IMMERSED or leaves it there (log 10). -/
theorem floatTested_iff (found now' : DipState) :
    floatTested found now' = true ↔ found = .immersed ∨ now' = .immersed := by
  simp [floatTested]

/-- The in-bath updates of a sample change contexts and notices. -/
theorem inBathUpdates_dipOnly (h : Hoist) (found : DipState) (s : State) : DipOnly s (inBathUpdates h found s) := by
  have nt : ∀ c n t, DipOnly t (setNoticeIf c n t) := fun c n t => (setNoticeIf_accountsOnly c n t).dipOnly
  unfold inBathUpdates
  split
  · simp only
    split
    · exact (modContexts_dipOnly _ _ s).trans ((nt _ _ _).trans (nt _ _ _))
    · exact DipOnly.refl s
  · exact DipOnly.refl s

/-- A sample at a context changes the dip's own parts, and then what bringing the poll mode in line changes. -/
theorem contextSample_only (h : Hoist) (s : State) : ∃ t, DipOnly s t ∧ PollOnly t (contextSample h s) := by
  refine ⟨inBathUpdates h (s.contexts.get h).state (transitionTest h (markOverload h s)), ?_, syncPollMode_pollOnly _⟩
  refine DipOnly.trans ?_ (inBathUpdates_dipOnly h _ _)
  refine DipOnly.trans ?_ (transitionTest_dipOnly h _)
  unfold markOverload
  split
  · exact modContexts_dipOnly _ _ s
  · exact DipOnly.refl s

/-- So does a telemetry sample at its hoist. -/
theorem takeSample_only (h : Hoist) (t : Telemetry) (s : State) :
    ∃ u, DipOnly s u ∧ PollOnly u (takeSample h t s) := by
  obtain ⟨u, hu, hp⟩ := contextSample_only h (setNoticeIf
    (((s.channels.get h).sample (s.tables.calibration.get h) t ((s.contexts.get h).state == .idle) s.now).overload
      && !(s.channels.get h).overload) .overload (s.setChannel h
        ((s.channels.get h).sample (s.tables.calibration.get h) t ((s.contexts.get h).state == .idle) s.now)))
  refine ⟨u, DipOnly.trans ?_ hu, hp⟩
  exact DipOnly.trans ⟨_, _, _, _, _, _, _, _, rfl⟩ (setNoticeIf_accountsOnly _ _ _).dipOnly

/-- A bath sample changes the bath monitor and notices. -/
theorem takeBathSample_only (r : BathReading) (s : State) :
    ∃ b f, takeBathSample r s = { s with bath := b, notices := f } := by
  have tr : ∀ (s t u : State), (∃ b f, t = { s with bath := b, notices := f }) →
      (∃ b f, u = { t with bath := b, notices := f }) → ∃ b f, u = { s with bath := b, notices := f } := by
    rintro s t u ⟨b, f, rfl⟩ ⟨b', f', rfl⟩
    exact ⟨b', f', rfl⟩
  have nt : ∀ (c : Bool) (n : Notice) (s : State), ∃ b f, setNoticeIf c n s = { s with bath := b, notices := f } := by
    intro c n s
    cases c <;> exact ⟨_, _, rfl⟩
  refine tr s (bathFigures r s) _ ⟨_, _, rfl⟩ ?_
  refine tr _ (windowCount r (bathFigures r s)) _ ?_ ?_
  · unfold windowCount
    split
    · exact ⟨_, _, rfl⟩
    · split
      · exact ⟨_, _, rfl⟩
      · simp only
        split
        · exact tr _ _ _ ⟨_, _, rfl⟩ (nt _ _ _)
        · exact ⟨_, _, rfl⟩
  · refine tr _ (bathRelease r (windowCount r (bathFigures r s))) _ ?_ ?_
    · unfold bathRelease
      split <;> exact ⟨_, _, rfl⟩
    · unfold takeBathSample quietSample
      split
      · exact tr _ _ _ ⟨_, _, rfl⟩ (nt _ _ _)
      · exact ⟨_, _, rfl⟩

/-! ## Tagging -/

/-- An accepted tag changes contexts alone: its own, and of the other hoist's the pair link alone, where they pair. -/
theorem takeTag_contexts (h : Hoist) (x : TagArgs) (s : State) :
    ∃ c o, takeTag h x s = { s with contexts := (s.contexts.set h c).set h.other o }
      ∧ c.state = .tagged ∧ c.tag = some x ∧ (o = s.contexts.get h.other ∨ o = { s.contexts.get h.other with pair := .paired }) := by
  have same : ∀ (p : PerHoist Context) (c : Context), p.set h c = (p.set h c).set h.other (p.get h.other) := by
    intro p c
    cases h <;> rfl
  unfold takeTag
  simp only
  split
  · exact ⟨_, _, congrArg (fun p => { s with contexts := p }) (same s.contexts _), rfl, rfl, .inl rfl⟩
  · split
    · exact ⟨_, _, rfl, rfl, rfl, .inr rfl⟩
    · exact ⟨_, _, congrArg (fun p => { s with contexts := p }) (same s.contexts _), rfl, rfl, .inl rfl⟩

end Sys2Proof.Machine
end

