-- ==== Sys2Proof/Laws/Management.lean ====
section
/-! SUPPORT. What the shared framing of a management request does: one reply, the refusals in order, a reading's page. -/

namespace Sys2Proof.Machine

/-- A management request sends nothing but its one reply, and is BUSY in a save where it changes a stored table. -/
theorem manage_next (q : Req) (code : Byte) (stored : Bool) (rule : State → Answer) (s : State) :
    manage q code stored rule s = .next (if stored && s.save.isSome then answered q code .busy [] s s
      else reply q (ownByte s) code (rule s.begin).status (rule s.begin).data (rule s.begin).state) := by
  unfold manage
  by_cases h : (stored && s.save.isSome) = true
  · simp [h, reply, answered, replyTo, sendUp, State.begin, ownByte, attention]
  · simp [h, ownByte]

/-- A reply after an effect that has sent nothing is the answered state. -/
theorem reply_begin (q : Req) (code : Byte) (st : Status) (data : List Byte) (s s' : State) :
    reply q (ownByte s) code st data s'.begin = answered q code st data s s' := by
  simp [reply, answered, replyTo, sendUp, State.begin, ownByte, attention]

/-- A rule that fails the first of its checks that fails, and else has its effect, is answered as `checked` says. -/
theorem manage_checked (q : Req) (code : Byte) (rule : State → Answer) (checks : List (Bool × Status))
    (data : List Byte) (s s' : State)
    (h : rule s.begin = match firstFailure checks with
      | some st => refuse st s.begin
      | none => { status := .done, data, state := s'.begin }) :
    manage q code false rule s = .next (checked q code checks data s s') := by
  rw [manage_next, h]
  unfold checked
  cases hf : firstFailure checks <;> simp [refuse, reply_begin]

/-- The same of a request that changes a stored table: it first fails BUSY while a save is in flight. -/
theorem manage_checked_stored (q : Req) (code : Byte) (rule : State → Answer) (checks : List (Bool × Status))
    (data : List Byte) (s s' : State)
    (h : rule s.begin = match firstFailure checks with
      | some st => refuse st s.begin
      | none => { status := .done, data, state := s'.begin }) :
    manage q code true rule s = .next (checked q code ((s.save.isSome, .busy) :: checks) data s s') := by
  by_cases hs : s.save.isSome = true
  · rw [manage_next]; simp [checked, firstFailure, hs]
  · have := manage_checked q code rule checks data s s' h
    rw [manage_next] at this ⊢
    simpa [checked, firstFailure, hs] using this

/-- A reading is answered with the page it names. -/
theorem manage_paged (q : Req) (code : Byte) (rule : State → Answer) (page : Nat) (items : List Item) (s s' : State)
    (h : rule s.begin = readPage page items s.begin s'.begin) :
    manage q code false rule s = .next (paged q code page items s s') := by
  rw [manage_next, h]
  unfold readPage paged
  cases hp : (pagesOf items)[page]? <;> simp [refuse, reply_begin, beBytes]

/-- A rule whose answer is a refusal. -/
theorem manage_refused (q : Req) (code : Byte) (rule : State → Answer) (st : Status) (s : State)
    (h : rule s.begin = refuse st s.begin) :
    manage q code false rule s = .next (answered q code st [] s s) := by
  rw [manage_next, h]; simp [refuse, reply_begin]

/-- A rule whose answer is DONE with reply data. -/
theorem manage_done (q : Req) (code : Byte) (rule : State → Answer) (data : List Byte) (s s' : State)
    (h : rule s.begin = { status := .done, data, state := s'.begin }) :
    manage q code false rule s = .next (answered q code .done data s s') := by
  rw [manage_next, h]; simp [reply_begin]

/-- The hoists tagged with `p` are none exactly when no tag satisfies `p`. -/
theorem hoistsTagged_isEmpty (p : TagArgs → Bool) (s : State) : (hoistsTagged p s).isEmpty = !anyTag p s := by
  cases h1 : s.contexts.h1.tag with
  | none =>
    cases h2 : s.contexts.h2.tag with
    | none => simp [hoistsTagged, anyTag, h1, h2]
    | some b => cases h : p b <;> simp [hoistsTagged, anyTag, h1, h2, h]
  | some a =>
    cases h2 : s.contexts.h2.tag with
    | none => cases h : p a <;> simp [hoistsTagged, anyTag, h1, h2, h]
    | some b => cases h : p a <;> cases h' : p b <;> simp [hoistsTagged, anyTag, h1, h2, h, h']

/-- The users of a jig are none exactly when it is not in use. -/
theorem jigUsers_isEmpty (n : Nat) (s : State) : (jigUsers n s).isEmpty = !jigInUse n s := by
  have h : ∀ h : Hoist, usesJig h n s = hoistUsesJig h n s := by
    intro h
    simp only [usesJig, hoistUsesJig]
    cases (s.contexts.get h).tag <;> simp
  cases h1 : hoistUsesJig .h1 n s <;> cases h2 : hoistUsesJig .h2 n s <;> simp [jigUsers, jigInUse, h, h1, h2]

/-- The number of a hoist names it, and no other number names one. -/
@[simp] theorem hoistOf_num (h : Hoist) : hoistOf h.num = some h := by cases h <;> rfl

theorem hoistOf_none (n : Nat) (h : n = 0 ∨ 2 < n) : hoistOf n = none := by
  unfold hoistOf
  split <;> first | omega | rfl

/-- The number of a port names it, and no other number names one. -/
@[simp] theorem portOf_num (p : Port) : portOf (portNum p) = some p := by cases p <;> rfl

theorem portOf_none (n : Nat) (h : n = 0 ∨ 3 < n) : portOf n = none := by
  unfold portOf
  split <;> first | omega | rfl

/-- The number of a zone names it, and no other number names one. -/
@[simp] theorem zoneOf_num (z : Zone) : zoneOf z.num = some z := by cases z <;> rfl

theorem zoneOf_none (n : Nat) (h : n = 0 ∨ 4 < n) : zoneOf n = none := by
  unfold zoneOf
  split <;> first | omega | rfl

theorem groupOf_none (n : Nat) (h : n = 0 ∨ 5 < n) : groupOf n = none := by
  unfold groupOf
  split <;> first | omega | rfl

theorem boolOf_eq (n : Nat) : boolOf n = if 1 < n then none else some (n == 1) := by
  unfold boolOf
  split
  · rfl
  · rfl
  · rename_i h0 h1
    rw [if_pos (by simp only [imp_false] at h0 h1; omega)]

/-- An optional item of a reading is the value's bytes behind a presence byte, or zeros (R183). -/
theorem optItem_eq {α : Type} (width : Nat) (enc : α → Item) (x : Option α) :
    optItem width enc x = optionalItem width (x.map enc) := by
  cases x <;> rfl

/-- A two-valued item is the byte 1 or the byte 0 (R182). -/
theorem flagItem_eq (b : Bool) : flagItem b = [if b then 1 else 0] := by
  cases b <;> rfl

end Sys2Proof.Machine
end

