-- ==== Sys2Proof/Laws/Ports.lean ====
section
/-! SUPPORT. What a frame on a downstream port and the expiry of a port's timer leave as it was. -/

namespace Sys2Proof.Machine

/-- The parts of the state that no event of the bay link's downstream side changes. -/
def LinkKeeps (s t : State) : Prop :=
  t.image = s.image ∧ t.save = s.save ∧ t.storeState = s.storeState ∧ t.restartCause = s.restartCause
    ∧ t.serviceAsserted = s.serviceAsserted ∧ t.now = s.now ∧ t.upstreamDamaged = s.upstreamDamaged
    ∧ t.trapHits = s.trapHits ∧ t.pending = s.pending

theorem LinkKeeps.refl (s : State) : LinkKeeps s s := ⟨rfl, rfl, rfl, rfl, rfl, rfl, rfl, rfl, rfl⟩

theorem LinkKeeps.trans {s t u : State} (h : LinkKeeps s t) (h' : LinkKeeps t u) : LinkKeeps s u := by
  obtain ⟨a, b, c, d, e, f, g, i, j⟩ := h
  obtain ⟨a', b', c', d', e', f', g', i', j'⟩ := h'
  exact ⟨a'.trans a, b'.trans b, c'.trans c, d'.trans d, e'.trans e, f'.trans f, g'.trans g, i'.trans i, j'.trans j⟩

theorem PollOnly.keeps {s t : State} (h : PollOnly s t) : LinkKeeps s t := by
  obtain ⟨l, n, u, b, _, rfl⟩ := h
  exact LinkKeeps.refl s

theorem GeneratedOnly.keeps {p : Port} {s t : State} (h : GeneratedOnly p s t) : LinkKeeps s t := by
  obtain ⟨l, n, u, m, b, f, _, rfl⟩ := h
  exact LinkKeeps.refl s

theorem DipOnly.keeps {s t : State} (h : DipOnly s t) : LinkKeeps s t := by
  obtain ⟨x, ch, c, o, w, r, n, f, rfl⟩ := h
  exact LinkKeeps.refl s

theorem abandonSlot_keeps (p : Port) (lc : LocalCode) (s : State) : LinkKeeps s (abandonSlot p lc s) := by
  rw [abandonSlot_eq]; exact LinkKeeps.refl s

/-- The abort of a dip changes the dip's own parts, and then what bringing the poll mode in line changes. -/
theorem abortDip_keeps (h : Hoist) (s : State) : LinkKeeps s (abortDip h s) := by
  unfold abortDip
  split
  · refine LinkKeeps.trans ?_ (syncPollMode_pollOnly _).keeps
    refine DipOnly.keeps (DipOnly.trans ?_ (modContexts_dipOnly _ _ _))
    exact (modContexts_dipOnly _ _ s).trans (closeAborted_accountsOnly _ _ _ _).dipOnly
  · exact LinkKeeps.refl s

theorem isolate_keeps (h : Hoist) (s : State) : LinkKeeps s (isolate h s) := by
  unfold isolate
  refine LinkKeeps.trans ?_ (LinkKeeps.refl _)
  refine LinkKeeps.trans ?_ (sendGenerated_generatedOnly _ _ _).keeps
  refine LinkKeeps.trans ?_ (abortDip_keeps h _)
  refine LinkKeeps.trans ?_ (LinkKeeps.refl _)
  exact abandonSlot_keeps _ _ _

/-- A port error leaves what the link's events leave. -/
theorem portError_keeps (p : Port) (e : PortError) (s : State) : LinkKeeps s (portError p e s) := by
  unfold portError
  split
  · exact LinkKeeps.refl s
  · exact LinkKeeps.refl s
  all_goals
    simp only
    split
    · exact LinkKeeps.trans (LinkKeeps.refl s) (isolate_keeps _ _)
    · exact LinkKeeps.refl s

theorem freeWithError_keeps (p : Port) (lc : LocalCode) (e : PortError) (s : State) :
    LinkKeeps s (freeWithError p lc e s) :=
  ((abandonSlot_keeps p lc s).trans (portError_keeps p e _)).trans (sendPending_generatedOnly p _).keeps

theorem takeSample_keeps (h : Hoist) (t : Telemetry) (s : State) : LinkKeeps s (takeSample h t s) := by
  obtain ⟨u, hd, hp⟩ := takeSample_only h t s
  exact hd.keeps.trans hp.keeps

theorem readReply_keeps (p : Port) (code : Byte) (f : Frame) (s : State) : LinkKeeps s (readReply p code f s) := by
  unfold readReply
  split
  · split
    · split
      · exact takeSample_keeps _ _ s
      · exact LinkKeeps.refl s
    · exact LinkKeeps.refl s
  · split
    · split
      · obtain ⟨b, f, hb⟩ := takeBathSample_only _ s
        rw [hb]; exact LinkKeeps.refl s
      · exact LinkKeeps.refl s
    · exact LinkKeeps.refl s

theorem replyUp_keeps (o : SlotOrigin) (f : Frame) (s : State) : LinkKeeps s (replyUp o f s) := by
  cases o <;> exact LinkKeeps.refl s

/-- A frame on a downstream port leaves what the link's events leave. -/
theorem receiveDown_keeps (p : Port) (bytes : List Byte) (s : State) : LinkKeeps s (receiveDown p bytes s) := by
  have matched : ∀ sl f, LinkKeeps s (matchedReply p sl f s) := by
    intro sl f
    unfold matchedReply
    refine LinkKeeps.trans ?_ (replyUp_keeps _ f _)
    refine LinkKeeps.trans ?_ (readReply_keeps p _ f _)
    exact LinkKeeps.trans (LinkKeeps.refl s) (sendPending_generatedOnly p _).keeps
  unfold receiveDown
  split
  · exact LinkKeeps.refl s
  · split
    · unfold undamagedFrame
      split
      · split
        · exact matched _ _
        · exact portError_keeps p _ s
      · exact portError_keeps p _ s
    · exact freeWithError_keeps p _ _ s

/-- A reply timer's expiry leaves what the link's events leave. -/
theorem replyTimeout_keeps (p : Port) (s : State) : LinkKeeps s (replyTimeout p s) := by
  unfold replyTimeout
  split
  · split
    · exact freeWithError_keeps p _ _ s
    · exact LinkKeeps.refl s
  · exact LinkKeeps.refl s

end Sys2Proof.Machine
end

