-- ==== Sys2Proof/Laws/Store.lean ====
section
/-! SUPPORT. The stored image: when it is good, and that its content holds every stored table in full (R171, R172): two
lots of tables within their ranges with the same content are the same tables, so the check leaves no field out. -/

namespace Sys2Proof.Machine

/-! ## The test of start-up (R172) -/

@[simp] theorem goodImage_none : goodImage none = none := rfl

/-- The image is good just where its check is the check over its content and its tables lie in their ranges. -/
theorem good_iff (x : StoredImage) : x.good = true ↔ x.check = crc16 (imageContent x.content) ∧ x.content.ok = true := by
  simp only [StoredImage.good, imageCheck, Bool.and_eq_true, beq_iff_eq, eq_comm (a := x.check)]

/-- What start-up takes from an image: all of its tables, and only from a good one. -/
theorem goodImage_eq_some_iff (image : Option StoredImage) (t : Tables) : goodImage image = some t ↔
    image = some ⟨t, crc16 (imageContent t)⟩ ∧ t.ok = true := by
  rcases image with _ | ⟨u, c⟩
  · simp only [goodImage_none, reduceCtorEq, false_and]
  · simp only [goodImage, Option.ite_none_right_eq_some, good_iff, Option.some.injEq, StoredImage.mk.injEq]
    constructor
    · rintro ⟨⟨h1, h2⟩, h3⟩
      subst h3
      exact ⟨⟨rfl, h1⟩, h2⟩
    · rintro ⟨⟨h1, h2⟩, h3⟩
      subst h1
      exact ⟨⟨h2, h3⟩, rfl⟩

/-- What a save writes is good where its tables are. -/
theorem goodImage_written {t : Tables} (h : t.ok = true) : goodImage (some (writtenImage t)) = some t :=
  (goodImage_eq_some_iff _ _).2 ⟨rfl, h⟩

/-- An image whose check is not the one over its content gives nothing. -/
theorem goodImage_wrong_check {x : StoredImage} (h : x.check ≠ imageCheck x.content) : goodImage (some x) = none := by
  simp [goodImage, StoredImage.good, h.symm]

/-- A check never equals its own complement. -/
theorem complement_ne (c : BitVec 16) : ~~~ c ≠ c := by
  intro h
  have := congrArg (BitVec.getLsbD · 0) h
  simp at this

/-! ## One piece at the front of a run of bytes -/

theorem be_split {w x y : Nat} {r r' : List Byte} (hx : x < 256 ^ w) (hy : y < 256 ^ w) :
    beBytes w x ++ r = beBytes w y ++ r' ↔ x = y ∧ r = r' := by
  refine ⟨fun e => ?_, fun h => by rw [h.1, h.2]⟩
  obtain ⟨h, hr⟩ := List.append_inj e (by simp)
  have hb := fromBE_beBytes_fits w x (by simpa [fitsNat] using hx)
  rw [h, fromBE_beBytes_fits w y (by simpa [fitsNat] using hy)] at hb
  exact ⟨hb.symm, hr⟩

theorem int_split {w : Nat} {x y : Int} {r r' : List Byte} (hw : 0 < w) (hx : fitsInt w x = true)
    (hy : fitsInt w y = true) : beInt w x ++ r = beInt w y ++ r' ↔ x = y ∧ r = r' := by
  refine ⟨fun e => ?_, fun h => by rw [h.1, h.2]⟩
  have hb := fieldInt_front w x r hw hx
  rw [e, fieldInt_front w y r' hw hy] at hb
  exact ⟨hb.symm, (List.append_inj e (by simp)).2⟩

theorem flag_split {x y : Bool} {r r' : List Byte} : flagItem x ++ r = flagItem y ++ r' ↔ x = y ∧ r = r' := by
  cases x <;> cases y <;> simp [flagItem, beBytes, bit]

/-- What `enc` writes for values that are `ok` is read back from the front of a run of bytes, whatever follows it. -/
def ReadsBack {α : Type} (enc : α → List Byte) (ok : α → Prop) : Prop :=
  ∀ (x y : α) (r r' : List Byte), ok x → ok y → enc x ++ r = enc y ++ r' → x = y ∧ r = r'

theorem readsBack_opt {α : Type} {enc : α → List Byte} {ok : α → Prop} (w : Nat) (h : ReadsBack enc ok) :
    ReadsBack (optItem w enc) (fun x => ∀ v, x = some v → ok v) := by
  intro x y r r' hx hy e
  cases x <;> cases y <;> simp [optItem] at e
  · exact ⟨rfl, e⟩
  · obtain ⟨h1, h2⟩ := h _ _ r r' (hx _ rfl) (hy _ rfl) e
    exact ⟨congrArg some h1, h2⟩

/-- Lists of one length, entry by entry. -/
theorem readsBack_flatMap {α : Type} {enc : α → List Byte} {ok : α → Prop} (h : ReadsBack enc ok) :
    ∀ (xs ys : List α) (r r' : List Byte), xs.length = ys.length → (∀ x ∈ xs, ok x) → (∀ y ∈ ys, ok y) →
      xs.flatMap enc ++ r = ys.flatMap enc ++ r' → xs = ys ∧ r = r'
  | [], [], _, _, _, _, _, e => ⟨rfl, e⟩
  | x :: xs, y :: ys, r, r', hl, hx, hy, e => by
    simp only [List.flatMap_cons, List.append_assoc] at e
    obtain ⟨h1, e1⟩ := h x y _ _ (hx x (by simp)) (hy y (by simp)) e
    obtain ⟨h2, e2⟩ := readsBack_flatMap h xs ys r r' (by simpa using hl) (fun z hz => hx z (by simp [hz]))
      (fun z hz => hy z (by simp [hz])) e1
    exact ⟨by rw [h1, h2], e2⟩

/-- A table of varying length, of at most 255 entries. -/
theorem readsBack_list {α : Type} {enc : α → List Byte} {ok : α → Prop} (h : ReadsBack enc ok) :
    ReadsBack (listContent enc) (fun xs => xs.length < 256 ∧ ∀ x ∈ xs, ok x) := by
  intro xs ys r r' hx hy e
  simp (disch := omega) only [listContent, List.append_assoc, be_split] at e
  exact readsBack_flatMap h xs ys r r' e.1 hx.2 hy.2 e.2

/-! ## The tables -/

/-- A station address held: none, or a byte that is not 0 (R2). -/
def stationFits (a : Option Nat) : Prop := ∀ x, a = some x → 1 ≤ x ∧ x < 256

theorem station_split {a b : Option Nat} {r r' : List Byte} (ha : stationFits a) (hb : stationFits b) :
    stationItem a ++ r = stationItem b ++ r' ↔ a = b ∧ r = r' := by
  have bound : ∀ c, stationFits c → c.getD 0 < 256 ^ 1 := by
    rintro (_ | x) hc
    · simp
    · simpa using (hc x rfl).2
  simp only [stationItem, be_split (bound a ha) (bound b hb), and_congr_left_iff]
  rintro -
  rcases a with _ | x <;> rcases b with _ | y <;> simp
  · have := hb y rfl; omega
  · have := ha x rfl; omega

/-- The address of a station lies in its range, or there is none. -/
theorem stationFits_of {a : Option Nat} (h : (match a with | some a => addressOk a | none => true) = true) :
    stationFits a := by
  rintro x rfl
  simp only [addressOk, within, Bool.and_eq_true, decide_eq_true_eq] at h
  omega

/-- A port's settings fit their widths. -/
def PortSettings.fits (x : PortSettings) : Prop :=
  x.window.base < 256 ∧ x.window.limit < 256 ∧ x.replyTimeout < 256 ∧ x.recoveryTime < 65536

theorem readsBack_port : ReadsBack portContent PortSettings.fits := by
  rintro ⟨⟨b, l⟩, t, c, s⟩ ⟨⟨b', l'⟩, t', c', s'⟩ r r' hx hy e
  simp only [PortSettings.fits] at hx hy
  simp (disch := omega) only [portContent, List.append_assoc, be_split, flag_split] at e
  simp [e]

theorem readsBack_trap : ReadsBack trapContent (fun _ => True) := by
  rintro ⟨a, b, c, d, f, g, i, j, k⟩ ⟨a', b', c', d', f', g', i', j', k'⟩ r r' _ _ e
  have hj : ∀ x : TrapCondition, x.num < 256 ^ 1 := by rintro ⟨⟩ <;> decide
  have hk : ∀ x : TrapAction, x.num < 256 ^ 1 := by rintro ⟨⟩ <;> decide
  simp only [trapContent, List.append_assoc, List.cons_append, List.nil_append, flag_split, List.cons.injEq,
    be_split (hj j) (hj j'), be_split (hk k) (hk k')] at e
  cases j <;> cases j' <;> cases k <;> cases k' <;> simp_all [TrapCondition.num, TrapAction.num]

theorem readsBack_hoist : ReadsBack hoistSettingsItem (fun x => x.ok = true) := by
  rintro ⟨a, b, c, d, f, g, i⟩ ⟨a', b', c', d', f', g', i'⟩ r r' hx hy e
  simp only [HoistSettings.ok, within, withinInt, Bool.and_eq_true, decide_eq_true_eq] at hx hy
  simp only [hoistSettingsItem, List.append_assoc, station_split (stationFits_of hx.1.1.1.1.1.1.1)
    (stationFits_of hy.1.1.1.1.1.1.1)] at e
  simp (disch := first | omega | (simp [fitsInt]; omega)) only [be_split, int_split] at e
  simp [e]

theorem readsBack_cal : ReadsBack calBytes (fun x => calOk x = true) := by
  rintro ⟨a, b, c, d, f, g, i, j, k⟩ ⟨a', b', c', d', f', g', i', j', k'⟩ r r' hx hy e
  simp only [calOk, within, withinInt, Bool.and_eq_true, decide_eq_true_eq] at hx hy
  simp (disch := first | omega | (simp [fitsInt]; omega)) only [calBytes, List.append_assoc, be_split, int_split] at e
  simp [e]

theorem readsBack_profile : ReadsBack (fun p => (profileItems p).flatten) (fun p => profileOk p = true) := by
  rintro ⟨a, b, c, d, f, g, i, j, k, l, m⟩ ⟨a', b', c', d', f', g', i', j', k', l', m'⟩ r r' hx hy e
  simp only [profileOk, within, Bool.and_eq_true, decide_eq_true_eq] at hx hy
  simp (disch := omega) only [profileItems, List.flatten_cons, List.flatten_nil, List.append_assoc, List.nil_append,
    be_split] at e
  simp [e]

theorem readsBack_jig : ReadsBack jigContent (fun j => j.ok = true) := by
  rintro ⟨a, b, c, d, f, g⟩ ⟨a', b', c', d', f', g'⟩ r r' hx hy e
  simp only [Jig.ok, jigArgsOk, within, Bool.and_eq_true, decide_eq_true_eq] at hx hy
  simp only [Config.tareMax, Config.count16Max, Config.count32Max] at hx hy
  simp (disch := omega) only [jigContent, List.append_assoc, be_split, flag_split] at e
  cases g <;> cases g' <;> simp_all

theorem readsBack_zone : ReadsBack (fun z => (zoneItems z).flatten) (fun z => z.ok = true) := by
  rintro ⟨a, b, c⟩ ⟨a', b', c'⟩ r r' hx hy e
  simp only [ZoneRec.ok, withinInt, Bool.and_eq_true, decide_eq_true_eq] at hx hy
  simp (disch := first | omega | (simp [fitsInt]; omega)) only [zoneItems, List.flatten_cons, List.flatten_nil,
    List.append_assoc, List.nil_append, flag_split, int_split] at e
  simp [e]

theorem readsBack_zoneMap : ReadsBack zoneMapContent (fun m => m.ok = true) := by
  rintro ⟨⟨z1, z2, z3, z4⟩, a, b, c, d, f, g⟩ ⟨⟨y1, y2, y3, y4⟩, a', b', c', d', f', g'⟩ r r' hx hy e
  simp only [ZoneMap.ok, within, withinInt, Bool.and_eq_true, decide_eq_true_eq] at hx hy
  simp only [zoneMapContent, List.flatten_append, List.append_assoc] at e
  obtain ⟨h1, e⟩ := readsBack_zone z1 y1 _ _ (by simp_all) (by simp_all) e
  obtain ⟨h2, e⟩ := readsBack_zone z2 y2 _ _ (by simp_all) (by simp_all) e
  obtain ⟨h3, e⟩ := readsBack_zone z3 y3 _ _ (by simp_all) (by simp_all) e
  obtain ⟨h4, e⟩ := readsBack_zone z4 y4 _ _ (by simp_all) (by simp_all) e
  simp (disch := first | omega | (simp [fitsInt]; omega)) only [be_split, int_split] at e
  simp [e, h1, h2, h3, h4]

theorem readsBack_bath : ReadsBack bathContent (fun x => x.fieldsOk = true) := by
  rintro ⟨a, b, c, d, f, g, i⟩ ⟨a', b', c', d', f', g', i'⟩ r r' hx hy e
  simp only [BathSettings.fieldsOk, within, Bool.and_eq_true, decide_eq_true_eq] at hx hy
  simp only [bathContent, List.append_assoc, station_split (stationFits_of hx.1.1.1.1.1.1)
    (stationFits_of hy.1.1.1.1.1.1)] at e
  simp (disch := omega) only [be_split] at e
  simp [e]

theorem readsBack_job : ReadsBack jobContent (fun j => j.ok = true) := by
  rintro ⟨a, b, c, d, f, g, i, j, k, l, m⟩ ⟨a', b', c', d', f', g', i', j', k', l', m'⟩ r r' hx hy e
  simp only [Job.ok, jobNumberOk, bandOk, within, Bool.and_eq_true, decide_eq_true_eq] at hx hy
  simp only [Config.count16Max, Config.count32Max] at hx hy
  have st : ∀ s : JobStatus, s.num < 256 ^ 1 := by rintro ⟨⟩ <;> decide
  simp (disch := first | omega | exact st _) only [jobContent, List.append_assoc, be_split] at e
  cases f <;> cases f' <;> simp_all [JobStatus.num]

/-- The four running totals of the balance fit their eight bytes (log 7). -/
def Balance.totalsFit (b : Balance) : Prop :=
  b.additions < 2 ^ 64 ∧ b.removals < 2 ^ 64 ∧ b.pickups < 2 ^ 64 ∧ b.shortfall < 2 ^ 64

theorem readsBack_balance : ReadsBack balanceContent (fun b => b.ok = true ∧ b.totalsFit) := by
  rintro ⟨a, b, c, d, f, g, i⟩ ⟨a', b', c', d', f', g', i'⟩ r r' ⟨hx, tx⟩ ⟨hy, ty⟩ e
  simp only [Balance.ok, Bool.and_eq_true, decide_eq_true_eq] at hx hy
  simp only [Config.balanceMax, Config.count32Max] at hx hy
  simp only [Balance.totalsFit] at tx ty
  simp (disch := omega) only [balanceContent, List.append_assoc, be_split] at e
  simp [e]

theorem groupByte_inj {g g' : GroupSetting} (h : g.ok = true) (h' : g'.ok = true) (e : groupByte g = groupByte g') :
    g = g' := by
  rcases g with ⟨l, b⟩
  rcases g' with ⟨l', b'⟩
  simp only [GroupSetting.ok, decide_eq_true_eq] at h h'
  have := congrArg BitVec.toNat e
  cases b <;> cases b' <;> simp [groupByte, bit] at this ⊢ <;> omega

/-- The port settings of tables within their ranges fit. -/
theorem Tables.ports_fit {t : Tables} (h : t.ok = true) :
    t.ports.a.fits ∧ t.ports.b.fits ∧ t.ports.k.fits := by
  simp only [Tables.ok, windowsOk, Window.boundsOk, addressOk, timingOk, within, Bool.and_eq_true,
    decide_eq_true_eq] at h
  simp only [PortSettings.fits]
  omega

/-- Every field of the stored tables is in the image's content: tables within their ranges that have the same content are
the same (R171). -/
theorem imageContent_inj {t u : Tables} (ht : t.ok = true) (hu : u.ok = true) (tt : t.balance.totalsFit)
    (tu : u.balance.totalsFit) (e : imageContent t = imageContent u) : t = u := by
  have pt := Tables.ports_fit ht
  have pu := Tables.ports_fit hu
  simp only [Tables.ok, Bool.and_eq_true, decide_eq_true_eq, List.all_eq_true, addressOk, within, Option.all_eq_true,
    and_assoc] at ht hu
  simp only [Config.jigPlaces, Config.jobPlaces] at ht hu
  obtain ⟨o, p, tr, h, c, lk, pf, js, z, b, jb, ba, g⟩ := t
  obtain ⟨o', p', tr', h', c', lk', pf', js', z', b', jb', ba', g'⟩ := u
  simp only at ht hu tt tu pt pu
  obtain ⟨_, _, -, -, -, -, -, -, h1, h2, c1, c2, p1, n1, j1, -, z1, b1, -, n2, j2, -, a1, g1, g2, g3, g4, g5⟩ := ht
  obtain ⟨_, _, -, -, -, -, -, -, h3, h4, c3, c4, p2, n3, j3, -, z2, b2, -, n4, j4, -, a2, g6, g7, g8, g9, g10⟩ := hu
  simp (disch := omega) only [imageContent, List.append_assoc, be_split] at e
  obtain ⟨e0, e⟩ := e
  obtain ⟨e1, e⟩ := readsBack_port _ _ _ _ pt.1 pu.1 e
  obtain ⟨e2, e⟩ := readsBack_port _ _ _ _ pt.2.1 pu.2.1 e
  obtain ⟨e3, e⟩ := readsBack_port _ _ _ _ pt.2.2 pu.2.2 e
  obtain ⟨e4, e⟩ := readsBack_flatMap readsBack_trap _ _ _ _ (by simp) (fun _ _ => trivial) (fun _ _ => trivial) e
  obtain ⟨e5, e⟩ := readsBack_hoist _ _ _ _ h1 h3 e
  obtain ⟨e6, e⟩ := readsBack_hoist _ _ _ _ h2 h4 e
  obtain ⟨e7, e⟩ := readsBack_opt 18 readsBack_cal _ _ _ _ c1 c3 e
  obtain ⟨e8, e⟩ := readsBack_opt 18 readsBack_cal _ _ _ _ c2 c4 e
  obtain ⟨e9, e⟩ := flag_split.1 e
  obtain ⟨e10, e⟩ := readsBack_flatMap (readsBack_opt 22 readsBack_profile) _ _ _ _ (by simp) p1 p2 e
  obtain ⟨e11, e⟩ := readsBack_list readsBack_jig _ _ _ _ ⟨by omega, j1⟩ ⟨by omega, j3⟩ e
  obtain ⟨e12, e⟩ := readsBack_zoneMap _ _ _ _ z1 z2 e
  obtain ⟨e13, e⟩ := readsBack_bath _ _ _ _ b1 b2 e
  obtain ⟨e14, e⟩ := readsBack_list readsBack_job _ _ _ _ ⟨by omega, j2⟩ ⟨by omega, j4⟩ e
  obtain ⟨e15, e⟩ := readsBack_balance _ _ _ _ ⟨a1, tt⟩ ⟨a2, tu⟩ e
  simp only [Group.all, PerGroup.get, List.map_cons, List.map_nil, List.cons.injEq, and_true] at e
  have k1 := groupByte_inj g1 g6 e.1
  have k2 := groupByte_inj g2 g7 e.2.1
  have k3 := groupByte_inj g3 g8 e.2.2.1
  have k4 := groupByte_inj g4 g9 e.2.2.2.1
  have k5 := groupByte_inj g5 g10 e.2.2.2.2
  rcases p with ⟨_, _, _⟩; rcases h with ⟨_, _⟩; rcases c with ⟨_, _⟩; rcases g with ⟨_, _, _, _, _⟩
  rcases p' with ⟨_, _, _⟩; rcases h' with ⟨_, _⟩; rcases c' with ⟨_, _⟩; rcases g' with ⟨_, _, _, _, _⟩
  simp_all [Vector.toList_inj]

end Sys2Proof.Machine
end

