-- ==== Sys2Proof/Tests/Slice0.lean ====
section
/-! SUPPORT. The model's own tests: the smoke test of well-formedness, words and figures written out from the spec, single
steps, and a witness for the hypotheses of every obligation. -/

namespace Sys2Proof.Tests

open Sys2Proof Sys2Proof.Machine

/-! ## Well-formedness: one ill-formed term for each check -/

def q : Req := ⟨1, 5⟩

def cal : CalRecord := ⟨12345, 2607, 400, 50, 2, 20, 4, 60000, 500⟩

def prof : Profile := ⟨150, 120, 100, 200, 100, 100, 50, 300, 841, 2000, 150⟩

def tag : TagArgs := ⟨1, 40117, 305, 3, 2400, 1000, 2, 2, 0⟩

def trap : TrapArgs := ⟨1, 10, 127, 0x31, 255, 0, 0, 1, 1⟩

def hoistArgs : HoistArgs := ⟨10, 500, 500, 1200, 60, 1200, 300⟩

def zoneArgs : ZoneArgs := ⟨1, 0, 300⟩

def mapArgs : ZoneMapArgs := ⟨zoneArgs, zoneArgs, zoneArgs, zoneArgs, 1900, 300, 150, 220, 1663, 150⟩

def bathArgs : BathArgs := ⟨30, 4400, 4650, 30, 10, 5, 100000⟩

theorem test_wellFormed_accepts : [Instr.unassignedManagementCode q 0x87 [], .setAddress q 255, .loadWindows q ⟨255, 255⟩
    ⟨0, 0⟩ ⟨1, 2⟩, .setPortTiming q 255 255 65535 255, .loadTrap q 255 trap, .loadHoistSettings q 1 hoistArgs,
    .loadCalibration q 1 cal, .loadProfile q 255 prof, .tagLoad q tag, .loadZoneMap q mapArgs,
    .setDrossCeiling q 255 (-32768), .loadBathSettings q bathArgs, .openJob q 16777215 65535 65535 255,
    .setBalance q 4294967295, .clearNotices q (List.replicate 19 255)].all Instr.wellFormed = true := by decide

theorem test_wellFormed_refuses_link : [Instr.unassignedManagementCode q 0x87 (List.replicate 61 0),
    .unassignedManagementCode q 0x82 [], .readStatus q 256, .setAddress q 256, .loadWindows q ⟨256, 0⟩ ⟨0, 0⟩ ⟨0, 0⟩,
    .loadWindows q ⟨0, 256⟩ ⟨0, 0⟩ ⟨0, 0⟩, .loadWindows q ⟨0, 0⟩ ⟨256, 0⟩ ⟨0, 0⟩, .loadWindows q ⟨0, 0⟩ ⟨0, 0⟩ ⟨0, 256⟩,
    .readPortStatus q 256 0, .readPortStatus q 1 256, .setPortTiming q 256 8 1000 0, .setPortTiming q 1 256 1000 0,
    .setPortTiming q 1 8 65536 0, .setPortTiming q 1 8 1000 256, .restartSegment q 256].all (fun i => !i.wellFormed)
    = true := by decide

theorem test_wellFormed_refuses_motion : [Instr.loadTrap q 256 trap, .loadTrap q 1 { trap with enabled := 256 },
    .loadTrap q 1 { trap with condition := 256 }, .loadTrap q 1 { trap with action := 256 }, .readTrap q 256 0,
    .readTrap q 1 256, .loadHoistSettings q 256 hoistArgs, .loadHoistSettings q 1 { hoistArgs with station := 256 },
    .loadHoistSettings q 1 { hoistArgs with ratedUp := 65536 }, .loadHoistSettings q 1 { hoistArgs with ratedDown := 65536 },
    .loadHoistSettings q 1 { hoistArgs with ratedTravel := 65536 }, .loadHoistSettings q 1 { hoistArgs with creep := 65536 },
    .loadHoistSettings q 1 { hoistArgs with offset := 32768 }, .loadHoistSettings q 1 { hoistArgs with offset := -32769 },
    .loadHoistSettings q 1 { hoistArgs with commandTimeout := 65536 }, .setOperatorCap q 256 0, .setOperatorCap q 1 65536,
    .readMotion q 256].all (fun i => !i.wellFormed) = true := by decide

theorem test_wellFormed_refuses_weighing : ([Instr.loadCalibration q 256 cal, .rezeroHook q 256, .readWeight q 256 0,
    .readWeight q 1 256] ++ [{ cal with zero := 8388608 }, { cal with zero := -8388609 }, { cal with gain := 65536 },
    { cal with trackRange := 65536 }, { cal with zeroBand := 65536 }, { cal with shift := 256 },
    { cal with settleBand := 65536 }, { cal with settleCount := 256 }, { cal with overThreshold := 16777216 },
    { cal with overHyst := 65536 }].map (Instr.loadCalibration q 1)).all (fun i => !i.wellFormed) = true := by decide

theorem test_wellFormed_refuses_tables : ([Instr.loadProfile q 256 prof, .removeProfile q 256, .readProfile q 256 0,
    .readProfile q 1 256, .loadJig q 65536 0 0, .loadJig q 1 16777216 0, .loadJig q 1 0 65536, .withdrawJig q 65536,
    .returnJig q 65536, .removeJig q 65536, .readJig q 65536 0, .readJig q 1 256] ++ [{ prof with approachSpeed := 65536 },
    { prof with entrySpeed := 65536 }, { prof with withdrawSpeed := 65536 }, { prof with drainSpeed := 65536 },
    { prof with coverDepth := 65536 }, { prof with minDwell := 65536 }, { prof with drainDwell := 65536 },
    { prof with weighTimeout := 65536 }, { prof with buoyancy := 65536 }, { prof with floatMargin := 65536 },
    { prof with groundFraction := 65536 }].map (Instr.loadProfile q 1)).all (fun i => !i.wellFormed) = true := by decide

theorem test_wellFormed_refuses_dips : ([Instr.cancelLoad q 256, .setMaintenancePermit q 256 0, .setMaintenancePermit q 1 256,
    .weighJig q 256 0, .weighJig q 1 65536, .readContext q 256 0, .readContext q 1 256] ++ [{ tag with hoist := 256 },
    { tag with job := 16777216 }, { tag with jig := 65536 }, { tag with profile := 256 }, { tag with loadDepth := 65536 },
    { tag with workHeight := 65536 }, { tag with firstZone := 256 }, { tag with lastZone := 256 },
    { tag with token := 256 }].map (Instr.tagLoad q)).all (fun i => !i.wellFormed) = true := by decide

theorem test_wellFormed_refuses_zones : ([Instr.setDrossCeiling q 256 0, .setDrossCeiling q 1 32768, .setZoneService q 256 0,
    .setZoneService q 1 256, .readZones q 256] ++ [{ mapArgs with z1 := { zoneArgs with inService := 256 } },
    { mapArgs with z2 := { zoneArgs with floor := 32768 } }, { mapArgs with z3 := { zoneArgs with ceiling := 32768 } },
    { mapArgs with z4 := { zoneArgs with inService := 256 } }, { mapArgs with rim := 65536 }, { mapArgs with margin := 65536 },
    { mapArgs with clearance := 65536 }, { mapArgs with emptyLevel := 32768 }, { mapArgs with massPerMm := 65536 },
    { mapArgs with tilt := 65536 }].map (Instr.loadZoneMap q)).all (fun i => !i.wellFormed) = true := by decide

theorem test_wellFormed_refuses_bath : (.readBath q 256 :: [{ bathArgs with station := 256 }, { bathArgs with low := 65536 },
    { bathArgs with high := 65536 }, { bathArgs with hysteresis := 65536 }, { bathArgs with staleTime := 256 },
    { bathArgs with pollInterval := 256 }, { bathArgs with reconcile := 4294967296 }].map
      (Instr.loadBathSettings q)).all (fun i => !i.wellFormed) = true := by decide

theorem test_wellFormed_refuses_accounts : [Instr.openJob q 16777216 0 0 0, .openJob q 1 65536 0 0, .openJob q 1 0 65536 0,
    .openJob q 1 0 0 256, .setJobBand q 16777216 0 0 0, .setJobBand q 1 65536 0 0, .setJobBand q 1 0 65536 0,
    .setJobBand q 1 0 0 256, .resumeJob q 16777216, .closeJob q 16777216, .releaseJob q 16777216, .readJob q 16777216 0,
    .readJob q 1 256, .zincAdded q 4294967296, .drossRemoved q 4294967296, .ashRemoved q 4294967296,
    .setBalance q 4294967296, .readBalance q 256, .readQueue q 256, .clearNotices q (List.replicate 20 1),
    .clearNotices q [256], .setNoticeLevels q 256 0 0, .setNoticeLevels q 1 256 0, .setNoticeLevels q 1 0 256].all
    (fun i => !i.wellFormed) = true := by decide

/-! ## Bytes written out from 12.1, 12.2 and R1 -/

/-- The published check value of the CRC that R1 names. -/
theorem test_crc : crc16 [0x31, 0x32, 0x33, 0x34, 0x35, 0x36, 0x37, 0x38, 0x39] = 0x29B1 := by decide +kernel

/-- ZINC ADDED, 12,345 du, to address 126 from 1, its check worked out apart from the model. -/
def zincFrame : List Byte := [126, 1, 0, 5, 0xB6, 4, 0, 0, 0x30, 0x39, 0xC8, 0x6C]

theorem test_decode_zincAdded : parseFrame zincFrame
    = some ⟨126, 1, false, false, false, 0, 5, 0xB6, [0, 0, 0x30, 0x39]⟩ := by decide +kernel

theorem test_decode_zincAdded_request : decodeManagement q 0xB6 [0, 0, 0x30, 0x39] = some (.zincAdded q 12345) := by decide

theorem test_decode_tagLoad : decodeManagement q 0xA2
    [1, 0x00, 0x9C, 0xB5, 0x01, 0x31, 3, 0x09, 0x60, 0x03, 0xE8, 2, 2, 0] = some (.tagLoad q tag) := by decide

theorem test_decode_loadJig : decodeManagement q 0x9C [0x01, 0x31, 0x00, 0x10, 0x1B, 0x00, 0xB4]
    = some (.loadJig q 305 4123 180) := by decide

theorem test_decode_setDrossCeiling : decodeManagement q 0xA9 [2, 0xFF, 0x38] = some (.setDrossCeiling q 2 (-200)) := by
  decide

theorem test_decode_page_absent : decodeManagement q 0x93 [2] = some (.readWeight q 2 0) := by decide

theorem test_decode_unassigned : [0x7F, 0x87, 0x8D, 0x97, 0x9B, 0xA1, 0xA7, 0xAE, 0xBF, 0xC0].all
    (fun c => (decodeManagement q (BitVec.ofNat 8 c) []).isNone) = true := by decide

theorem test_telemetry : telemetryOf [0x06, 0x12, 0xD6, 0x87, 0x0E, 0x10]
    = some ⟨false, true, true, 1234567, 3600⟩ := by decide

/-! ## The spec's worked figures -/

/-- 3.5, the three conversions. -/
theorem test_conversions : (rawMass 1234567 12345 2607, rawMass 12000 12345 2607, rawMass 515045 12345 2607)
    = (48620, -14, 19997) := by decide

/-- 3.6, samples 2 and 10 of the sequence: −140 gives −35, −2 the minimum step. -/
theorem test_filter_steps : (minStep (-140) 4, minStep (-35) 4, minStep (-22) 4, minStep (-2) 4) = (-35, -8, -5, -1) := by
  decide

/-- 3.9, sample 1, and the fence at 12,745. -/
theorem test_zero_tracking : (trackZero 12345 12500 cal, trackZero 12745 12945 cal) = (12346, 12745) := by decide

/-- 5.4, the thresholds of one dip. -/
theorem test_thresholds : ((Context.initial.capture 48625 4123 841 0).sMass,
    (Context.initial.capture 48625 4123 841 0).aExp, groundThreshold 48625 prof) = (some 44502, some 11199, 7293) := by decide

/-- 8.3, the figures of the example. -/
theorem test_pickup : pickupFigures 48625 44502 51619 180 55 75 = ⟨2994, 180, 2814, some 63, false, false, false⟩ := by decide

/-- 7.4, the implied mass of the example. -/
theorem test_implied : impliedMass { ZoneMap.initial with emptyLevel := 220, massPerMm := 1663 } 1650 = 2378090 := by decide

/-- 12.3, the entry bytes of record 212: 15,520 ms are 155 tenths. -/
theorem test_later_time : laterTime 100480 (some 116000) = [0, 155] := by decide

/-! ## A bay set up as in the spec's examples -/

def job : Job := ⟨40117, 55, 75, 3, .opened, 12, 510000, 31800, 0, 1, 0⟩

def jig : Jig := ⟨305, 4123, 180, 9, 1620, .inService⟩

def zoneRec : ZoneRec := ⟨true, 0, 300⟩

def tables : Tables := { Tables.initial with
  ports := ⟨⟨⟨10, 19⟩, 8, 1000, true⟩, ⟨⟨20, 29⟩, 8, 1000, false⟩, ⟨⟨30, 39⟩, 8, 1000, false⟩⟩
  hoists := ⟨⟨some 10, 500, 500, 1200, 60, 1200, 300⟩, ⟨some 20, 500, 500, 1200, 60, 1150, 300⟩⟩
  calibration := ⟨some cal, some cal⟩
  profiles := Tables.initial.profiles.set 2 (some prof)
  jigs := [jig], jobs := [job]
  zoneMap := ⟨⟨zoneRec, zoneRec, zoneRec, zoneRec⟩, 1900, 300, 150, 220, 1663, 150⟩
  bath := { BathSettings.initial with station := some 30 }
  balance := ⟨2381500, 7781500, 0, 0, 5400000, 0, 0⟩ }

theorem test_tables_ok : tables.ok = true := by decide +kernel

/-- The bay at rest: both hoists idle, the bath at 1,650 mm and no hold, a quiet sample held. -/
def base : State := { State.reset with
  tables
  now := 5000
  channels := ⟨{ Channel.initial (some 12345) with block := some ⟨12400, true, false⟩, height := some ⟨3600, 4000⟩ },
    { Channel.initial (some 12345) with block := some ⟨12400, true, false⟩, height := some ⟨3500, 4000⟩ }⟩
  bath := { BathMonitor.initial with
    pollTimer := some 9000, lastPoll := some 4000, hold := none
    temperature := some ⟨4500, 4000, some 14000⟩, level := some ⟨1650, 4000, some 14000⟩
    quiet := some ⟨1650, 2378090, 4000, 3410⟩ } }

/-- A context of the example dip in a state of the dip. -/
def ctx (st : DipState) : Context := { Context.initial with
  state := st, tag := some tag, wDry := some 48625, sMass := some 44502, aExp := some 11199, aMin := some 48625
  aMax := some 48625, tTare := some 1000, reserved := st != .tagged && st != .abandoned }

/-- Hoist 1 in the example dip, its hook at `height` and its channel settled at `f`. -/
def dip (st : DipState) (height f : Int) : State := { base with
  contexts := ⟨ctx st, Context.initial⟩
  channels := { base.channels with h1 := { base.channels.h1 with
    height := some ⟨height, 5000⟩, filtered := some f, mass := some f, settle := 4 } }
  owners := if st.overKettle || st == .abandoned then ⟨.none, .hoist .h1, .none, .none⟩ else ⟨.none, .none, .none, .none⟩
  bath := { base.bath with mode := if st.overKettle then .continuous else .periodic } }

/-- Hoist 1 with its channel changed. -/
def channelled (f : Channel → Channel) (s : State) : State := { s with channels := { s.channels with h1 := f s.channels.h1 } }

/-- 4.6: bottom and top at hook height 3,400, and the approach height. -/
theorem test_geometry : (ownBottom .h1 (dip .ready 3400 48625), ownTop .h1 (dip .ready 3400 48625),
    approachHeight base) = (some 2200, some 3200, 2200) := by decide

/-- 4.6: LOWERING gives way to ENTERING at 2,849; ENTERING to IMMERSED at 1,750. -/
theorem test_entering : ((transitionTest .h1 (dip .lowering 2849 48625)).contexts.h1.state,
    (transitionTest .h1 (dip .lowering 2850 48625)).contexts.h1.state,
    (transitionTest .h1 (dip .entering 1750 30000)).contexts.h1.state,
    (transitionTest .h1 (dip .entering 1751 30000)).contexts.h1.state)
    = (.entering, .lowering, .immersed, .entering) := by decide

/-- 4.6: READY submits its claim at 3,400, and it is granted whole. -/
theorem test_claim : ((transitionTest .h1 (dip .ready 3400 48625)).owners.z2,
    (transitionTest .h1 (dip .ready 3401 48625)).contexts.h1.state) = (.hoist .h1, .ready) := by decide

/-- 4.6: at 1,650 the DROSS limit gives down 0; at 1,651 it does not. -/
theorem test_dross : (drossLimit .h1 (dip .immersed 1650 30000), drossLimit .h1 (dip .immersed 1651 30000))
    = (.noDown, .free) := by decide

/-- 5.4: the float latches below 9,199, grounding shows below 7,293. -/
theorem test_float_grounded : let c := fun f => (inBathUpdates .h1 .immersed (dip .immersed 1700 f)).contexts.h1
    ((c 9199).floatLatched, (c 9198).floatLatched, (c 7293).grounded, (c 7292).grounded) = (false, true, false, true) := by
  decide

/-- R84: the sample that takes IMMERSED to WITHDRAWING, its top 1 mm above 1,550, makes the float test. -/
theorem test_float_leaving : (contextSample .h1 (dip .immersed 1751 9198)).contexts.h1.state = .withdrawing
    ∧ (contextSample .h1 (dip .immersed 1751 9198)).contexts.h1.floatLatched = true
    ∧ (contextSample .h1 (dip .withdrawing 1751 9198)).contexts.h1.floatLatched = false := by decide +kernel

/-- 2.4: DOWN 400, FORE 800 in LOWERING with cap 300: DOWN 150 by STATE, travel STOP by STATE. -/
theorem test_limits : let s := { dip .lowering 3000 48625 with motion := ⟨.initial 300, .initial 300⟩ }
    let v : MotionValues := ⟨.down, 400, .fore, 800⟩
    (appliedValues v .h1 s, (hoistAxis v .h1 s).2, (travelAxis v .h1 s).2)
      = (⟨.down, 150, .stop, 0⟩, some .state, some .state) := by decide

/-- 2.4: with the cap at 150, OPERATOR governs the tie. -/
theorem test_limits_tie : let s := { dip .lowering 3000 48625 with motion := ⟨.initial 150, .initial 150⟩ }
    (hoistAxis ⟨.down, 400, .stop, 0⟩ .h1 s) = (150, some .operator) := by decide

/-- 6.5: hooks at 4,600 and 4,430: hoist 2 may not go down, hoist 1 not up; at 4,450 TILT is inactive. -/
theorem test_tilt : let s := fun y : Int => { base with
      contexts := ⟨{ ctx .tagged with pair := .paired }, { ctx .tagged with pair := .paired }⟩
      channels := ⟨{ base.channels.h1 with height := some ⟨3400, 0⟩ }, { base.channels.h2 with height := some ⟨y, 0⟩ }⟩ }
    (tiltLimit .h2 (s 3280), tiltLimit .h1 (s 3280), tiltLimit .h2 (s 3300))
      = (.noDown, { Limits.free with up := some 0 }, .free) := by decide

/-- 8.3: the accounts before and after the close of the example. -/
theorem test_close : let t := closeNormal (ctx .weighing) tag (.one .h1) 51619 base
    (t.tables.jobs, t.tables.jigs, t.tables.balance.k, t.tables.balance.pickups)
      = ([⟨40117, 55, 75, 3, .opened, 13, 554502, 34614, 0, 1, 0⟩], [⟨305, 4303, 180, 10, 1800, .inService⟩], 2378506,
        5402994) := by decide

/-- 9.5: the attention value with levels DIP 2, QUEUE 3, LINK 1 DISABLED, BATH 2, DEVICE 1. -/
theorem test_attention : let g : PerGroup GroupSetting := ⟨⟨2, true⟩, ⟨3, true⟩, ⟨1, false⟩, ⟨2, true⟩, ⟨1, true⟩⟩
    let f := NoticeFlags.clear
    (attentionOf g { f with restarted := true }, attentionOf g { f with restarted := true, bathReleased := true },
      attentionOf g f, attentionOf g { f with trapHit := true },
      attentionOf g { f with trapHit := true, dipClosed := true },
      attentionOf g { f with dipClosed := true, floatAnomaly := true }) = (1, 2, 0, 0, 2, 4) := by decide

/-! ## Single steps -/

/-- The state that a command leaves. -/
def after (i : Instr) (s : State) : State :=
  match step { s with pending := [i] } with
  | .next t => t
  | .fault _ => s
  | .refused _ => s

/-- The frames that a command sends. -/
def sentBy (i : Instr) (s : State) : List Sent := (after i s).sent

/-- R1 to R4, R139, R165: the frame of 12,345 du of zinc raises K and is answered DONE to station 1, number 5. -/
theorem test_step_zincAdded : (after (.upstreamFrame zincFrame) base).tables.balance.k = 2393845
    ∧ sentBy (.upstreamFrame zincFrame) base = [.up ⟨1, 126, true, true, false, 1, 5, 0xB6, [0]⟩] := by decide +kernel

/-- R4, R21: a STATUS request to hoist 1's station goes down on port A. -/
theorem test_step_forward : sentBy (.upstreamFrame (encodeFrame ⟨10, 1, false, false, true, 3, 7, 0x30, [9]⟩)) base
    = [.down .a ⟨10, 1, false, false, false, 0, 7, 0x30, [9]⟩] := by decide +kernel

/-- R30 to R35: 2.4's request goes down as DOWN 150, STOP 0. -/
theorem test_step_motion : sentBy (.upstreamFrame (encodeFrame ⟨10, 1, false, false, false, 0, 7, 0x31,
      [2, 0x01, 0x90, 1, 0x03, 0x20]⟩)) { dip .lowering 3000 48625 with motion := ⟨.initial 300, .initial 300⟩ }
    = [.down .a ⟨10, 1, false, false, false, 0, 7, 0x31, [2, 0, 150, 0, 0, 0]⟩] := by decide +kernel

/-- R4: an address in no window is answered NO ROUTE. -/
theorem test_step_noRoute : sentBy (.upstreamFrame (encodeFrame ⟨77, 1, false, false, false, 0, 7, 0x30, []⟩)) base
    = [.up ⟨1, 77, true, true, false, 1, 7, 0x30, [0x81]⟩] := by decide +kernel

/-- R41, R42: an expiry with hoist 1 moving sends a stop and sets the urgent notice. -/
theorem test_step_commandTimeout : let s := { base with motion := { base.motion with h1 := { base.motion.h1 with
      applied := ⟨.up, 100, .stop, 0⟩, commandTimer := some 5000 } } }
    sentBy (.commandTimerExpiry .h1) s = [.down .a ⟨10, 126, false, true, false, 0, 0, 0x31, [0, 0, 0, 0, 0, 0]⟩]
      ∧ (after (.commandTimerExpiry .h1) s).notices.commandTimeoutStop = true := by decide

/-- R69, R78: the example load is tagged. -/
theorem test_step_tagLoad : (after (.tagLoad q tag) base).contexts.h1.state = .tagged
    ∧ (after (.tagLoad q tag) base).contexts.h1.tag = some tag := by decide +kernel

/-- R110, R111: hoist 2's load joins the waiting one of hoist 1 as a pair, and takes its flag OVERLOAD_SEEN. -/
theorem test_step_tagLoad_pair : let o := { Context.initial with
      state := .tagged, tag := some { tag with token := 9 }, pair := .partnerPending
      flags := { DipFlags.clear with overloadSeen := true } }
    let s := after (.tagLoad q { tag with hoist := 2, token := 9 }) { base with contexts := ⟨o, Context.initial⟩ }
    (s.contexts.h1.pair, s.contexts.h2.pair, s.contexts.h2.flags.overloadSeen) = (.paired, .paired, true) := by
  decide +kernel

/-- R142: the balance becomes the implied mass of 7.4's sample. -/
theorem test_step_setBalanceToLevel : (after (.setBalanceToLevel q) base).tables.balance
    = ⟨2378090, 2378090, 0, 0, 0, 0, 0⟩ := by decide

/-- R173, R175: a save ends with the snapshot and its check in the image. -/
theorem test_step_save : (after .saveCompletion (after (.saveTables q) base)).image = some (writtenImage tables) := rfl

/-- R172: start-up takes what a save wrote whole, and nothing of an image with a wrong check. -/
theorem test_image_check : goodImage (some (writtenImage tables)) = some tables
    ∧ goodImage (some ⟨tables, ~~~ imageCheck tables⟩) = none :=
  ⟨goodImage_written test_tables_ok, goodImage_wrong_check (complement_ne (imageCheck tables))⟩

/-- R177: a reset from a good image takes its tables and polls the bath station. -/
theorem test_step_deviceReset (image : Option StoredImage) (h : goodImage image = some tables) :
    let t := after (.deviceReset .resetLine false) { base with image }
    t.storeState = .good ∧ t.ports.k.slot.isSome = true ∧ t.bath.hold = some .stale := by
  have e : after (.deviceReset .resetLine false) { base with image } = pollDue (startState image .resetLine false []) := rfl
  simp only [e, startState, startTables, h]
  exact ⟨rfl, rfl, rfl⟩

/-- R172, R177: a reset from a bad image starts from the power-up values, with the notice. -/
theorem test_step_deviceReset_bad (image : Option StoredImage) (h : goodImage image = none) :
    let t := after (.deviceReset .resetLine false) { base with image }
    t.storeState = .defaults ∧ t.tables = Tables.initial ∧ t.notices.storedTableError = true := by
  have e : after (.deviceReset .resetLine false) { base with image } = pollDue (startState image .resetLine false []) := rfl
  simp only [e, startState, startTables, h]
  exact ⟨rfl, rfl, rfl⟩

/-- R161, 9.5: PORT FAULT stays while port A is FAULTED. -/
theorem test_step_clearNotices : let s := { base with
      ports := { base.ports with a := { PortUnit.initial with state := .faulted, recovery := some 6000 } }
      notices := { NoticeFlags.clear with portFault := true, dipClosed := true, trapHit := true } }
    (after (.clearNotices q [1, 7, 6]) s).notices = { NoticeFlags.clear with portFault := true } := by decide

/-! ## Witnesses: the hypotheses of each obligation are met together, clause by clause, at boundary values -/

/-- Port A's unit replaced. -/
def portA (u : PortUnit) (s : State) : State := { s with ports := { s.ports with a := u } }

/-- A forwarded STATUS request in a slot. -/
def slot : Slot := ⟨.forwarded 1 true, 10, 7, 0x30, 5000⟩

/-- A STATUS request, number 7, from station 1. -/
def status (dest : Byte) : Frame := ⟨dest, 1, false, false, false, 0, 7, 0x30, []⟩

/-- A MOTION request of 2.4 to a station. -/
def motion (dest : Byte) : Frame := ⟨dest, 1, false, false, false, 0, 7, 0x31, [2, 0x01, 0x90, 1, 0x03, 0x20]⟩

/-- The reply of hoist station 10 to request 7, with a telemetry block. -/
def answer : Frame := ⟨1, 10, true, false, false, 0, 7, 0x30, [0x06, 0x12, 0xD6, 0x87, 0x0E, 0x10]⟩

/-- The station's reply to a BATH READ of number 9. -/
def bathAnswer : Frame := ⟨126, 30, true, false, false, 0, 9, 0x50, [3, 0x11, 0x94, 0x06, 0x72]⟩

/-- Both hoists carry one load in a state of the dip. -/
def paired (st : DipState) : State := { dip st 3400 24400 with
  contexts := ⟨{ ctx st with pair := .paired, tag := some { tag with token := 9 } },
    { ctx st with pair := .paired, tag := some { tag with hoist := 2, token := 9 } }⟩
  channels := ⟨{ base.channels.h1 with height := some ⟨3400, 5000⟩, filtered := some 24400, settle := 4 },
    { base.channels.h2 with height := some ⟨3400, 5000⟩, filtered := some 24225, settle := 4 }⟩
  owners := if st.overKettle || st == .abandoned then ⟨.none, .pair, .none, .none⟩ else ⟨.none, .none, .none, .none⟩ }

theorem parse_status (dest : Byte) (h : dest ∈ [0, 9, 10, 19, 40]) :
    parseFrame (encodeFrame (status dest)) = some (status dest) := by
  simp only [List.mem_cons, List.not_mem_nil, or_false] at h
  rcases h with h | h | h | h | h <;> subst h <;> decide +kernel

theorem parse_motion : parseFrame (encodeFrame (motion 10)) = some (motion 10) := by decide +kernel

theorem parse_answer : parseFrame (encodeFrame answer) = some answer := by decide +kernel

theorem parse_bathAnswer : parseFrame (encodeFrame bathAnswer) = some bathAnswer := by decide +kernel

theorem only_a (a : Nat) (h : a = 10 ∨ a = 19) : onlyWindowOf .a a base := by
  intro x
  rcases h with h | h <;> subst h <;> cases x <;> decide

/-! ### The queue, the clock, the start and the store -/

theorem witness_EmptyQueuePassesOneMillisecond : base.pending = [] ∧ State.reset.pending = [] := ⟨rfl, rfl⟩

theorem witness_DeviceResetStartsThePartAfresh :
    (some (writtenImage tables) = some ⟨tables, crc16 (imageContent tables)⟩ ∧ tables.ok = true
      ∧ tables.bath.station = some 30)
    ∧ ((∀ y, base.image = some y → y.check ≠ crc16 (imageContent y.content) ∨ y.content.ok = false)
      ∧ Tables.initial.bath.station = none)
    ∧ (∀ y, (some (writtenImage { tables with ownAddress := 127 })) = some y → y.content.ok = false)
    ∧ (∀ y : StoredImage, some ⟨tables, ~~~ crc16 (imageContent tables)⟩ = some y
        → y.check ≠ crc16 (imageContent y.content)) :=
  ⟨⟨rfl, test_tables_ok, rfl⟩, ⟨(fun _ h => by cases h), rfl⟩, (fun y h => by cases h; decide +kernel),
    fun y h => Option.some.inj h ▸ complement_ne (crc16 (imageContent tables))⟩

theorem witness_SaveSnapshotsAndCompletes : (after (.saveTables q) base).save = some ⟨tables, 5400⟩ ∧ base.save = none
    ∧ (Instr.removeJig q 305).wellFormed = true ∧ (∀ q', Instr.removeJig q 305 ≠ .saveTables q')
    ∧ (∀ q', Instr.removeJig q 305 ≠ .lockCalibration q') ∧ Instr.removeJig q 305 ≠ .saveCompletion
    ∧ (∀ bytes f, Instr.removeJig q 305 = .upstreamFrame bytes → parseFrame bytes = some f
        → f.code ≠ 0x82 ∧ f.code ≠ 0x91)
    ∧ ∃ t, exec (.removeJig q 305) base = .next t :=
  ⟨by decide +kernel, rfl, by decide, nofun, nofun, nofun, nofun, _, rfl⟩

theorem witness_MarkedRequestsAreBusyDuringASave : managementCode (.setAddress q 1) = some 0x81
    ∧ managementCode (.setBalanceToLevel q) = some 0xBA ∧ (after (.saveTables q) base).save.isSome = true :=
  ⟨rfl, rfl, by decide⟩

/-! ### Frames -/

theorem witness_EveryManagementRequestIsAnsweredOnce : managementCode (.readStatus q 0) = some 0x80
    ∧ managementCode (.restartSegment q 1) = some 0x86 ∧ managementCode (.readQueue q 0) = some 0xBE := ⟨rfl, rfl, rfl⟩

theorem witness_FramesAreReadAsTheyAreWritten : parseFrame (List.replicate 7 0) = none
    ∧ parseFrame (encodeFrame answer) = some answer ∧ answer.reply = true
    ∧ (⟨0, 255, true, true, true, 7, 255, 255, List.replicate 60 255⟩ : Frame).payload.length ≤ 60
    ∧ (⟨0, 255, true, true, true, 7, 255, 255, List.replicate 60 255⟩ : Frame).attention < 8 :=
  ⟨by decide, parse_answer, rfl, by decide, by decide⟩

theorem witness_ManagementRequestsRoundTrip : (Instr.setBalance q 4294967295).wellFormed = true
    ∧ managementCode (.setBalance q 4294967295) = some 0xB9 ∧ (Instr.setDrossCeiling q 4 (-32768)).wellFormed = true := by
  decide

theorem witness_ManagementFramesRunTheirRequest :
    parseFrame zincFrame = some ⟨126, 1, false, false, false, 0, 5, 0xB6, [0, 0, 0x30, 0x39]⟩
    ∧ (126#8).toNat = base.tables.ownAddress ∧ decodeManagement q 0xB6 [0, 0, 0x30, 0x39] = some (.zincAdded q 12345)
    ∧ admits 0x87 0 = false ∧ admits 0x80 2 = false ∧ admits 0x95 20 = false := by decide +kernel

theorem witness_EveryFrameSentIsWellMade : ∃ t, exec (.pollTimerExpiry) { base with now := 9000 } = .next t
    ∧ t.sent.length = 1 := ⟨_, rfl, by decide⟩

/-! ### Requests from port U -/

theorem witness_RequestsAnsweredLocally_noRoute : (∀ p, ¬ ((base.tables.ports.get p).window.base ≤ (status 9).dest.toNat
      ∧ (status 9).dest.toNat ≤ (base.tables.ports.get p).window.limit))
    ∧ (∀ p, ¬ ((base.tables.ports.get p).window.base ≤ (status 40).dest.toNat
      ∧ (status 40).dest.toNat ≤ (base.tables.ports.get p).window.limit))
    ∧ (status 9).reply = false ∧ (status 9).dest.toNat ≠ base.tables.ownAddress ∧ (status 9).dest ≠ 0
    ∧ parseFrame (encodeFrame (status 9)) = some (status 9) :=
  ⟨fun p => by cases p <;> decide, fun p => by cases p <;> decide, rfl, by decide, by decide,
    parse_status 9 (by decide)⟩

/-- Entry 1 blocks a STATUS request to station 10. -/
def blocking : State := { base with
  tables := { tables with traps := tables.traps.set 0 ⟨true, 10, 127, 0x30, 255, 0, 0, .always, .block⟩ } }

/-- Entry 8 notes a request to station 10 while hoist 1 is over the kettle. -/
def noting : State := { dip .lowering 3000 48625 with
  tables := { tables with traps := tables.traps.set 7 ⟨true, 10, 127, 0x30, 255, 0, 0, .overKettle, .note⟩ } }

theorem witness_RequestsAnsweredLocally : (status 10).reply = false ∧ (status 10).dest.toNat ≠ base.tables.ownAddress
    ∧ (status 10).dest ≠ 0 ∧ parseFrame (encodeFrame (status 10)) = some (status 10) ∧ onlyWindowOf .a 10 base
    ∧ onlyWindowOf .a 19 base
    ∧ ((portA { PortUnit.initial with state := .isolated } base).ports.get .a).state = .isolated
    ∧ ((portA { PortUnit.initial with state := .restarting } base).ports.get .a).state = .restarting
    ∧ ((portA { PortUnit.initial with state := .faulted, slot := some slot } base).ports.get .a).slot.isSome = true
    ∧ (blocking.ports.get .a).slot = none ∧ trapMatch (some .a) (status 10) blocking = some (0, .block) :=
  ⟨rfl, by decide, by decide, parse_status 10 (by decide), only_a 10 (.inl rfl), only_a 19 (.inr rfl), rfl, rfl, rfl, rfl,
    by decide +kernel⟩

theorem witness_RequestsAreForwarded : parseFrame (encodeFrame (status 19)) = some (status 19) ∧ onlyWindowOf .a 19 base
    ∧ (base.ports.get .a).state = .opened ∧ (base.ports.get .a).slot = none ∧ passesTraps (some .a) (status 19) base base
    ∧ passesTraps (some .a) (status 10) noting (hitOn 7 noting)
    ∧ (∀ h : Hoist, h.port = .a → (status 19).code = 0x31 → (base.tables.hoists.get h).station
        ≠ some (status 19).dest.toNat) :=
  ⟨parse_status 19 (by decide), only_a 19 (.inr rfl), rfl, rfl, .inl ⟨by decide +kernel, rfl⟩,
    .inr ⟨7, by decide +kernel, rfl⟩, fun _ _ h => absurd h (by decide)⟩

theorem witness_MotionRequestsAreLimited : parseFrame (encodeFrame (motion 10)) = some (motion 10)
    ∧ onlyWindowOf Hoist.h1.port 10 base ∧ (base.ports.get .a).state = .opened ∧ (base.ports.get .a).slot = none
    ∧ passesTraps (some .a) (motion 10) base base ∧ (motion 10).code = 0x31
    ∧ (base.tables.hoists.get .h1).station = some (motion 10).dest.toNat
    ∧ motionRequest (motion 10).payload = some ⟨.down, 400, .fore, 800⟩ ∧ motionRequest [3, 0, 1, 0, 0, 0] = none :=
  ⟨parse_motion, only_a 10 (.inl rfl), rfl, rfl, .inl ⟨by decide +kernel, rfl⟩, rfl, by decide, by decide, by decide⟩

theorem witness_FirstMatchingTrapDecides : trapMatch (some .a) (status 10) noting = some (7, .note)
    ∧ trapMatch (some .a) (status 10) blocking = some (0, .block) ∧ trapMatch none (status 10) noting = none := by
  decide +kernel

theorem witness_BroadcastsGoToOpenPorts : parseFrame (encodeFrame (status 0)) = some (status 0) ∧ (status 0).dest = 0
    ∧ base.tables.ownAddress ≠ 0 ∧ passesTraps none (status 0) base base
    ∧ trapMatch none (status 0) { base with tables := { tables with
        traps := tables.traps.set 0 ⟨true, 0, 127, 0, 0, 0, 0, .always, .block⟩ } } = some (0, .block) :=
  ⟨parse_status 0 (by decide), rfl, by decide, .inl ⟨by decide +kernel, rfl⟩, by decide +kernel⟩

/-! ### Downstream ports -/

theorem witness_MatchedRepliesAreProcessed : parseFrame (encodeFrame answer) = some answer
    ∧ ((portA { PortUnit.initial with slot := some slot } base).ports.get .a).slot = some slot ∧ answer.src = slot.dest
    ∧ answer.seq = slot.seq ∧ Hoist.h1.port = .a ∧ (base.tables.hoists.get .h1).station = some answer.src.toNat
    ∧ telemetryOf answer.payload = some ⟨false, true, true, 1234567, 3600⟩ :=
  ⟨parse_answer, rfl, rfl, rfl, rfl, by decide, by decide⟩

theorem witness_MatchedRepliesAreProcessed_bath : parseFrame (encodeFrame bathAnswer) = some bathAnswer
    ∧ base.tables.bath.station = some bathAnswer.src.toNat
    ∧ bathReadingOf bathAnswer.payload = some ⟨true, true, 4500, 1650⟩ := ⟨parse_bathAnswer, by decide, by decide⟩

theorem witness_MatchedRepliesAreProcessed_unread : telemetryOf [0, 0, 0, 0, 0] = none ∧ bathReadingOf [0, 0, 0, 0] = none
    ∧ (∀ h, h.port = Port.a → (base.tables.hoists.get h).station ≠ some 11) :=
  ⟨by decide, by decide, fun h => by cases h <;> decide⟩

theorem witness_PendingRequestsTakeTheFreeSlot :
    ((portA { PortUnit.initial with pending := some .commandStop } base).ports.get Hoist.h1.port).pending
      = some .commandStop
    ∧ ((portA { PortUnit.initial with state := .isolated, pending := some .isolationStop } base).ports.get
      Hoist.h1.port).state ≠ .restarting
    ∧ (base.tables.hoists.get .h1).station = some 10
    ∧ ({ base.ports with k := { PortUnit.initial with pending := some .poll } }.k).pending = some .poll
    ∧ base.tables.bath.station = some 30 := by decide

theorem witness_PortErrorsFaultThePort : base.ports.a.state = .opened
    ∧ (∀ h : Hoist, h.port = .b → (base.tables.ports.get .b).strictStop = false
        ∨ (base.contexts.get h).state.overKettle = false)
    ∧ (∀ h : Hoist, h.port = .a → (base.tables.ports.get .a).strictStop = false
        ∨ (base.contexts.get h).state.overKettle = false)
    ∧ ((portA { PortUnit.initial with state := .isolated, pending := some .isolationStop } base).ports.get .a).state
      = .isolated
    ∧ reachedBy ((some slot).map Slot.deadline) base.now
    ∧ (∀ sl, base.ports.a.slot = some sl → ¬ (answer.reply = true ∧ answer.src = sl.dest ∧ answer.seq = sl.seq))
    ∧ ¬ reachedBy ((some slot).map Slot.deadline) 4999 ∧ parseFrame [] = none :=
  ⟨rfl, fun h => by cases h <;> decide, fun h => by cases h <;> decide, rfl, ⟨5000, rfl, by decide⟩, (fun _ h => by cases h),
    fun ⟨d, hd, hle⟩ => by cases hd; exact absurd hle (by decide), by decide⟩

/-- Hoist 1 of a single dip or a pair, in LOWERING, with a request in port A's slot. -/
def strict (s : State) : State := portA { PortUnit.initial with slot := some slot, pending := some .commandStop } s

theorem witness_StrictStopIsolatesThePort : ∀ s ∈ [strict (dip .lowering 3000 48625), strict (paired .draining)],
    (s.ports.get Hoist.h1.port).state = .opened ∧ (s.tables.ports.get Hoist.h1.port).strictStop = true
    ∧ (s.contexts.get .h1).state.overKettle = true ∧ (s.contexts.get .h1).tag.isSome = true ∧ parseFrame [] = none
    ∧ (∀ sl, (s.ports.get Hoist.h1.port).slot = some sl →
        ¬ (({ answer with seq := 8 } : Frame).reply = true ∧ answer.src = sl.dest ∧ (8 : Byte) = sl.seq))
    ∧ reachedBy ((s.ports.get Hoist.h1.port).slot.map Slot.deadline) s.now := by
  intro s hs
  simp only [List.mem_cons, List.not_mem_nil, or_false] at hs
  rcases hs with rfl | rfl <;>
    exact ⟨rfl, rfl, rfl, rfl, by decide, (fun sl h => by cases h; decide), 5000, rfl, by decide⟩

theorem witness_StrictStopIsolatesThePort_stray : parseFrame (encodeFrame { answer with seq := 8 })
    = some { answer with seq := 8 } := by decide +kernel

theorem witness_PortAndCommandTimersExpire : reachedBy (some 5000) base.now
    ∧ ((portA { PortUnit.initial with state := .faulted, recovery := some 5000 } base).ports.get .a).state = .faulted
    ∧ ((portA { PortUnit.initial with state := .restarting, restartHold := some 5000 } base).ports.get .a).restartHold
      = some 5000
    ∧ ((portA { PortUnit.initial with state := .isolated, stopTimer := some 5000 } base).ports.get Hoist.h1.port).stopTimer
      = some 5000
    ∧ (base.tables.hoists.get .h1).station = some 10 ∧ (base.motion.get .h1).applied.hoistSpeed = 0
    ∧ (⟨.up, 1, .stop, 0⟩ : MotionValues).hoistSpeed ≠ 0 :=
  ⟨⟨5000, rfl, by decide⟩, rfl, rfl, rfl, rfl, rfl, by decide⟩

theorem witness_RestartSegmentRestartsThePort : (4 = 0 ∨ 3 < 4) ∧ ((dip .draining 3000 0).contexts.get .h1).state.overKettle
    = true ∧ ((dip .draining 3000 0).ports.get Hoist.h1.port).state ≠ .isolated
    ∧ (∀ h : Hoist, h.port = .k → (base.contexts.get h).state.overKettle = false ∨ (base.ports.get .k).state = .isolated)
    ∧ (∀ h : Hoist, h.port = .a → (base.contexts.get h).state.overKettle = false ∨ (base.ports.get .a).state = .isolated) :=
  ⟨by decide, rfl, by decide, fun h => by cases h <;> decide, fun h => by cases h <;> decide⟩

/-! ### Tables -/

theorem witness_LinkAndFilterRequests : ((0 = 0 ∨ 3 < 0) ∧ (4 = 0 ∨ 3 < 4)) ∧ (0 = 0 ∨ 2 < 0) ∧ (3 = 0 ∨ 2 < 3) := by
  decide

theorem witness_CalibrationProfileAndJigRequests : base.tables.calibrationLock = false
    ∧ ({ base with tables := { tables with calibrationLock := true } } : State).tables.calibrationLock = true
    ∧ base.tables.calibration.get .h1 = some cal ∧ (base.channels.get .h1).block = some ⟨12400, true, false⟩
    ∧ State.reset.tables.calibration.get .h1 = none ∧ (State.reset.channels.get .h1).block = none
    ∧ (findJig 305 base).isSome = true ∧ findJig 4095 base = none ∧ (0 = 0 ∨ 2 < 0) ∧ (3 = 0 ∨ 2 < 3) := by decide

theorem witness_TagLoadChecksAndTags : tag.hoist = Hoist.h1.num ∧ ({ tag with hoist := 3 } : TagArgs).hoist = 3
    ∧ (3 = 0 ∨ 2 < 3) := by decide

theorem witness_CancelLoadAndPermit : (base.contexts.get .h1).state = .idle
    ∧ ((dip .ready 3400 48625).contexts.get .h1).state ∈ [.tagged, .ready, .waitingZone]
    ∧ ((dip .ready 3400 48625).contexts.get .h1).pair ≠ .paired
    ∧ ((paired .waitingZone).contexts.get .h1).state ∈ [.tagged, .ready, .waitingZone]
    ∧ ((paired .waitingZone).contexts.get .h1).pair = .paired
    ∧ ((paired .waitingZone).contexts.get Hoist.h1.other).pair = .paired
    ∧ ((paired .waitingZone).contexts.get Hoist.h1.other).tag.isSome = true
    ∧ ((dip .abandoned 3400 48625).contexts.get .h1).state
      ∈ [.lowering, .entering, .immersed, .withdrawing, .draining, .weighing, .abandoned]
    ∧ ((after (.weighJig q 1 305) base).contexts.get .h1).state = .jigWeigh := by decide

/-- Hoist 1 weighing jig 305, its channel settled at `f`. -/
def jigWeighing (f : Int) : State := { base with
  contexts := { base.contexts with h1 := { Context.initial with
    state := .jigWeigh, jigWeigh := ⟨305, .inProgress, 0, some 5000⟩ } }
  channels := { base.channels with h1 := { base.channels.h1 with filtered := some f, settle := 4 } } }

theorem witness_JigWeighing : let s := jigWeighing 100001
    pollModeOk s = true ∧ (s.contexts.get .h1).state = .jigWeigh ∧ (s.channels.get .h1).filtered = some 100001
    ∧ channelSettled .h1 s = true ∧ channelStill .h1 s = true ∧ reachedBy (s.contexts.get .h1).jigWeigh.timer s.now
    ∧ (base.contexts.get .h1).state ≠ .jigWeigh ∧ channelSettled .h1 (channelled (fun c => { c with settle := 3 }) s) = false
    ∧ channelStill .h1 (channelled (fun c => { c with block := some ⟨12400, true, true⟩ }) s) = false :=
  ⟨by decide, rfl, rfl, by decide, by decide, ⟨5000, rfl, by decide⟩, by decide, by decide, by decide⟩

/-! ### The dip -/

theorem witness_TareCaptureNeedsAFreePlace : let s := dip .tagged 3600 48625
    (s.contexts.get .h1).state = .tagged ∧ (s.contexts.get .h1).tag = some tag ∧ findJig 305 s = some jig
    ∧ findProfile 3 s = some prof ∧ (s.contexts.get .h1).pair ≠ .partnerPending ∧ dipFiltered .h1 s = some 48625
    ∧ dipSettled .h1 s = true ∧ dipStill .h1 s = true ∧ s.records.length + reservedPlaces s < 48 := by decide +kernel

/-- A record of no dip in particular. -/
def record : Record := recordOf (ctx .weighing) tag (.one .h1) .unweighed none none false false false 5000

theorem witness_TareCaptureNeedsAFreePlace_full : let s := { dip .tagged 3600 48625 with
      records := List.replicate 48 record }
    48 ≤ s.records.length + reservedPlaces s ∧ dipSettled .h1 s = true ∧ dipStill .h1 s = true := by decide

theorem witness_TareCaptureNeedsAFreePlace_none : let s := dip .tagged 3600 48625
    (s.contexts.get .h1).state = .tagged ∧ dipSettled .h1 (channelled (fun c => { c with settle := 3 }) s) = false
    ∧ dipStill .h1 (channelled (fun c => { c with block := some ⟨12400, true, true⟩ }) s) = false
    ∧ dipFiltered .h1 (channelled (fun c => { c with filtered := none }) s) = none
    ∧ ({ ctx .tagged with pair := .partnerPending } : Context).state = .tagged := by decide

theorem witness_HeightsDriveTheDipThroughTheBath : let s := fun st y => dip st y 30000
    (((s .ready 3400).contexts.get .h1).tag = some tag ∧ findProfile 3 (s .ready 3400) = some prof
      ∧ dipBottom .h1 (s .ready 3400) = some 2200 ∧ dipTop .h1 (s .ready 3400) = some 3200
      ∧ surface (s .ready 3400) = some 1650)
    ∧ (dipTop .h1 (s .entering 1750) = some 1550 ∧ dipTop .h1 (s .entering 1751) = some 1551
      ∧ dipBottom .h1 (s .entering 1751) = some 551 ∧ dipBottom .h1 (s .entering 2850) = some 1650)
    ∧ ((s .withdrawing 1751).contexts.get .h1).state = .withdrawing := by decide +kernel

theorem witness_HeightsDriveTheDipThroughTheBath_absent : let s := fun st => dip st 1750 30000
    let blind := fun st => channelled (fun c => { c with height := none }) (s st)
    (dipBottom .h1 (blind .ready) = none ∧ dipTop .h1 (blind .immersed) = none)
    ∧ ((blind .withdrawing).contexts.get .h1).state = .withdrawing
    ∧ surface { s .lowering with bath := { base.bath with level := none } } = none := by decide

theorem witness_HeightsDriveTheDipThroughTheBath_again : let s := { dip .withdrawing 1750 30000 with
      contexts := ⟨{ ctx .withdrawing with tImmersion := some 3000 }, Context.initial⟩ }
    (∀ x, sharesDip .h1 x s = true → (s.contexts.get x).tImmersion.isSome = true) ∧ dipTop .h1 s = some 1550 :=
  ⟨fun x => by cases x <;> decide, by decide⟩

theorem witness_InBathSamplesGroundAndFloat : let s := dip .immersed 1700 9198
    (s.contexts.get .h1).state ∈ [.entering, .immersed, .withdrawing] ∧ (s.contexts.get .h1).tag = some tag
    ∧ findProfile 3 s = some prof ∧ dipFiltered .h1 s = some 9198 ∧ (s.contexts.get .h1).wDry = some 48625
    ∧ (s.contexts.get .h1).aExp = some 11199 ∧ (s.contexts.get .h1).aMin = some 48625
    ∧ (s.contexts.get .h1).aMax = some 48625 := by decide +kernel

/-- A pair in the bath holds its figures alike; a single dip leaves the other context as it is. -/
theorem witness_InBathSamplesGroundAndFloat_pair : let s := paired .withdrawing
    joint (dip .immersed 1700 9198) = false ∧ joint s = true
    ∧ s.contexts.h2 = { s.contexts.h1 with
      tag := s.contexts.h2.tag, permit := s.contexts.h2.permit, jigWeigh := s.contexts.h2.jigWeigh } := by decide

/-- The example dip in WEIGHING with its claim still held. -/
def holding (height : Int) : State := { dip .weighing height 51619 with
  contexts := ⟨{ ctx .weighing with claim := .held }, Context.initial⟩, owners := ⟨.none, .hoist .h1, .none, .none⟩ }

/-- With no claim held, with one held at the approach height, below it, and unsettled. -/
theorem witness_WeighingAndAbandonedSamplesReleaseAndClose : let s := dip .weighing 3400 51619
    let u := { s with channels := { s.channels with h1 := { s.channels.h1 with settle := 3 } } }
    (s.contexts.get .h1).state = .weighing ∧ (s.contexts.get .h1).tag = some tag ∧ dipBottom .h1 s = some 2200
    ∧ dipFiltered .h1 s = some 51619 ∧ dipSettled .h1 s = true ∧ (s.contexts.get .h1).claim ≠ .held
    ∧ dipSettled .h1 u = false ∧ ((holding 3400).contexts.get .h1).claim = .held ∧ waitingOk (holding 3400) = true
    ∧ dipBottom .h1 (holding 3400) = some 2200 ∧ dipBottom .h1 (holding 3399) = some 2199
    ∧ (base.tables.zoneMap.rim + base.tables.zoneMap.margin : Int) = 2200 := by decide

/-- In ABANDONED: no hook height, below and at the approach height, and as the first and the second of a pair. -/
theorem witness_WeighingAndAbandonedSamplesReleaseAndClose_abandoned : let s := paired .abandoned
    let u := { s with contexts := { s.contexts with h2 := Context.initial } }
    ((dip .abandoned 3400 0).contexts.get .h1).state = .abandoned
    ∧ ((dip .abandoned 3400 0).contexts.get .h1).pair ≠ .paired
    ∧ ownBottom .h1 { dip .abandoned 3400 0 with channels := State.reset.channels } = none
    ∧ ownBottom .h1 (dip .abandoned 3399 0) = some 2199 ∧ ownBottom .h1 (dip .abandoned 3400 0) = some 2200
    ∧ (s.contexts.get .h1).pair = .paired ∧ (s.contexts.get Hoist.h1.other).state = .abandoned
    ∧ (s.contexts.get Hoist.h1.other).pair = .paired ∧ (u.contexts.get .h1).pair = .paired
    ∧ (u.contexts.get Hoist.h1.other).state ≠ .abandoned := by decide

theorem witness_DrainAndWeighTimersExpire : let s := { dip .draining 3400 51619 with
      contexts := ⟨{ ctx .draining with drainTimer := some 5000 }, Context.initial⟩ }
    let u := { dip .weighing 3400 51619 with
      contexts := ⟨{ ctx .weighing with weighTimer := some 5000 }, Context.initial⟩ }
    (s.contexts.get .h1).state = .draining ∧ reachedBy (s.contexts.get .h1).drainTimer s.now
    ∧ (s.contexts.get .h1).tag = some tag ∧ findProfile 3 s = some prof ∧ (u.contexts.get .h1).state = .weighing
    ∧ reachedBy (u.contexts.get .h1).weighTimer u.now ∧ (u.contexts.get .h1).tag = some tag
    ∧ (base.contexts.get .h1).state ≠ .draining ∧ (u.contexts.get .h1).claim ≠ .held
    ∧ ((holding 3399).contexts.get .h1).claim = .held ∧ sharesDip .h1 .h2 u = false
    ∧ sharesDip .h1 .h2 (paired .weighing) = true :=
  ⟨rfl, ⟨5000, rfl, by decide⟩, rfl, by decide +kernel, rfl, ⟨5000, rfl, by decide⟩, rfl, by decide, by decide, rfl, by decide,
    by decide⟩

theorem witness_NormalCloseArithmetic : (pickupFigures 0 1 0 0 0 0).ratio = some 0 ∧ (pickupFigures 5 0 4 0 0 0).ratio = none
    ∧ (0 : Int) ≤ 51619 - 48625 ∧ (4 - 5 : Int) < 0 ∧ (-20000 : Int) ≤ 48625 := by decide

theorem witness_NormalCloseChargesTheAccounts : (ctx .weighing).wDry = some 48625 ∧ (ctx .weighing).sMass = some 44502
    ∧ findJob 40117 base = some job ∧ findJig 305 base = some jig
    ∧ (∀ x ∈ base.tables.jobs, x.number = 40117 → x = job) := by decide

/-! ### Zones -/

theorem witness_ClaimsAreGrantedWholeOrWait :
    (∀ z : Zone, 2 ≤ z.num → z.num ≤ 2 → base.owners.get z = .none ∨ base.owners.get z = .hoist .h1)
    ∧ (∀ z : Zone, 1 ≤ z.num → z.num ≤ 4 → base.owners.get z = .none ∨ base.owners.get z = .pair)
    ∧ (∃ z : Zone, 1 ≤ z.num ∧ z.num ≤ 2 ∧ (dip .lowering 3000 0).owners.get z ≠ .none
        ∧ (dip .lowering 3000 0).owners.get z ≠ .pair)
    ∧ base.waiting = none ∧ Owner.pair ≠ .none ∧ Owner.hoist .h1 ≠ .none :=
  ⟨fun z => by cases z <;> decide, fun z => by cases z <;> decide, ⟨.z2, by decide⟩, rfl, by decide, by decide⟩

/-- Hoist 2 waits for zone 2 while hoist 1 owns zones 2 and 3. -/
def waiting (first last : Nat) : State := { dip .weighing 3400 51619 with
  owners := ⟨.none, .hoist .h1, .hoist .h1, .pair⟩, waiting := some ⟨.hoist .h2, first, last⟩ }

theorem witness_ClaimsAreGrantedWholeOrWait_release : (waiting 2 2).waiting = some ⟨.hoist .h2, 2, 2⟩
    ∧ (∀ z : Zone, 2 ≤ z.num → z.num ≤ 2 → (waiting 2 2).owners.get z = .none
        ∨ (waiting 2 2).owners.get z = .hoist .h1 ∨ (waiting 2 2).owners.get z = .hoist .h2)
    ∧ (∃ z : Zone, 2 ≤ z.num ∧ z.num ≤ 4 ∧ (waiting 2 4).owners.get z ≠ .none
        ∧ (waiting 2 4).owners.get z ≠ .hoist .h1 ∧ (waiting 2 4).owners.get z ≠ .hoist .h2) :=
  ⟨rfl, fun z => by cases z <;> decide, ⟨.z4, by decide⟩⟩

theorem witness_ZoneRequests : (0 = 0 ∨ 4 < 0) ∧ (5 = 0 ∨ 4 < 5) := by decide

/-! ### The bath -/

/-- The checks of LOAD BATH SETTINGS on the example settings all pass. -/
theorem witness_BathSettingsTakeEffect : base.save.isSome = false
    ∧ (base.contexts.h1.state.overKettle || base.contexts.h2.state.overKettle) = false ∧ base.bath.hold = none
    ∧ ¬ (bathArgs.high ≤ bathArgs.low ∨ bathArgs.high < bathArgs.low + 2 * bathArgs.hysteresis)
    ∧ base.tables.bath.station.isSome = true ∧ State.reset.tables.bath.station = none
    ∧ base.ports.k.slot = none ∧ base.ports.k.state = .opened := by decide

theorem witness_BathSettingsTakeEffect_stale : ∃ f, (base.bath.temperature = some f ∨ base.bath.level = some f)
    ∧ f.deadline.isSome = true ∧ f.time + 2 * 1000 < 6001 := ⟨⟨4500, 4000, some 14000⟩, .inl rfl, rfl, by decide⟩

theorem witness_BathTimersExpireAndThePollModeFollows : reachedBy (some 9000) 9000 ∧ ¬ reachedBy base.bath.pollTimer base.now
    ∧ ¬ reachedBy ((base.bath.figure .level).bind Figure.deadline) base.now ∧ base.tables.bath.station = some 30
    ∧ State.reset.tables.bath.station = none ∧ base.bath.temperature = some ⟨4500, 4000, some 14000⟩
    ∧ reachedBy (some 14000) 14000 :=
  ⟨⟨9000, rfl, by decide⟩, fun ⟨d, hd, hle⟩ => by cases hd; exact absurd hle (by decide),
    fun ⟨d, hd, hle⟩ => by cases hd; exact absurd hle (by decide), rfl, rfl, rfl, ⟨14000, rfl, by decide⟩⟩

/-- To CONTINUOUS with port K's slot free and taken; to PERIODIC with a poll pending, with the last poll 1 ms short of one
poll interval ago and one whole interval ago, and with none sent; without a bath station. -/
theorem witness_BathTimersExpireAndThePollModeFollows_mode :
    let on := { dip .lowering 3000 0 with bath := { base.bath with mode := .periodic } }
    let off := fun poll => { base with bath := { base.bath with mode := .continuous, lastPoll := poll } }
    bathActive on = true ∧ on.bath.mode = .periodic ∧ on.tables.bath.station = some 30 ∧ on.ports.k.slot = none
    ∧ on.ports.k.state = .opened ∧ bathActive (off none) = false ∧ (off none).bath.mode = .continuous
    ∧ (off none).ports.k.pending = none ∧ (off (some 1)).now < 1 + (off (some 1)).tables.bath.pollInterval * 1000
    ∧ 0 + (off (some 0)).tables.bath.pollInterval * 1000 ≤ (off (some 0)).now ∧ (off none).bath.lastPoll = none
    ∧ State.reset.tables.bath.station = none := by decide

/-- At the fourth low reading in a row the hold is set, and at a reading in the release window it is gone. -/
theorem witness_BathSamplesHoldAndRelease : let cold : BathReading := ⟨true, true, 4399, 1650⟩
    let t := takeBathSample cold { base with bath := { base.bath with outCount := 3 } }
    t.bath.outCount = 4 ∧ t.bath.hold = some .low
    ∧ (takeBathSample ⟨true, true, 4430, 1650⟩ t).bath.hold = none := by decide

/-! ### Accounts, notices and readings -/

theorem witness_RemovalsLowerTheBalance : 2381500 ≤ base.tables.balance.k ∧ base.tables.balance.k < 2381501 := by decide

theorem witness_SetBalanceStartsAfresh : base.bath.quiet = some ⟨1650, 2378090, 4000, 3410⟩ ∧ State.reset.bath.quiet = none :=
  ⟨rfl, rfl⟩

theorem witness_RecordsAreReadOldestFirst : ({ base with records := [record] } : State).records = record :: []
    ∧ base.records = [] := ⟨rfl, rfl⟩

/-- 12.3's first bytes of a record: number 0, UNWEIGHED of hoist 1, token none, job 40,117, jig 305, profile 3. -/
theorem test_recordBytes : (recordBytes record).take 10 = [0, 0, 5, 0, 0x00, 0x9C, 0xB5, 0x01, 0x31, 3] := by decide

theorem witness_NoticeRequests : (List.replicate 19 19).length ≤ 19 ∧ (∀ k ∈ [1, 19], 1 ≤ k ∧ k ≤ 19)
    ∧ (∃ k ∈ [1, 20], k < 1 ∨ 19 < k) ∧ (∃ k ∈ [0], k < 1 ∨ 19 < k) ∧ (6 = 0 ∨ 5 < 6)
    ∧ (5, Group.device) ∈ [(1, Group.dip), (2, .queue), (3, .link), (4, .bath), (5, .device)] := by decide

theorem witness_AttentionIsTheHighestContribution : tables.ok = true ∧ attention base = 1 := ⟨test_tables_ok, by decide⟩

theorem witness_ReadingsAnswerTheirPage : (0 = 0 ∨ 2 < 0) ∧ (3 = 0 ∨ 2 < 3) ∧ base.tables.traps[8 - 1]? = some TrapEntry.initial
    ∧ base.trapHits[8 - 1]? = some 0 ∧ findProfile 3 base = some prof ∧ findProfile 16 base = none
    ∧ findJig 305 base = some jig ∧ findJig 1 base = none ∧ findJob 40117 base = some job ∧ findJob 1 base = none := by
  decide +kernel

theorem witness_ReadingsHoldTheItemsOfTheirRules : (∀ b, flagItem b = [if b then 1 else 0])
    ∧ (∀ d, stampItem d = optionalItem 6 (d.map (beBytes 6)))
    ∧ (∀ now d, timerItem now d = optionalItem 4 (d.map (fun d => beBytes 4 (d - now)))) :=
  ⟨fun b => by cases b <;> rfl, fun d => by cases d <;> rfl, fun _ d => by cases d <;> rfl⟩

theorem witness_PagesHoldWholeItems : ∀ x ∈ ([List.replicate 57 0, [], [1]] : List Item), x.length ≤ 57 := by decide

/-! ### Limits and channels -/

theorem witness_AppliedSpeedsAreTheLeast : appliedValues ⟨.down, 400, .fore, 800⟩ .h1 base = ⟨.down, 400, .fore, 800⟩
    ∧ appliedValues ⟨.up, 0, .aft, 0⟩ .h1 base = ⟨.stop, 0, .stop, 0⟩
    ∧ (travelAxis ⟨.stop, 0, .aft, 1500⟩ .h1 base).2 = some .rated := by decide

theorem witness_LimitSourcesGiveTheirLimits : ((dip .lowering 3000 0).contexts.get .h1).tag = some tag
    ∧ dipBottom .h1 (dip .lowering 3000 0) = some 1800 ∧ highestDross 2 2 base.tables.zoneMap = some 300
    ∧ (base.contexts.get .h1).tag = none ∧ (paired .lowering).contexts.h1.pair = .paired
    ∧ (paired .lowering).contexts.h2.pair = .paired ∧ hookHeight .h1 (paired .lowering) = some 4600
    ∧ hookHeight .h2 (paired .lowering) = some 4550 ∧ (base.contexts.get .h1).state = .idle
    ∧ findProfile 3 (dip .lowering 3000 0) = some prof := by decide +kernel

theorem witness_ChannelStagesOfAConvertedSample : let c : Channel := { Channel.initial (some 12345) with
      mass := some 6, filtered := some 6 }
    c.zero = some 12345 ∧ c.mass = some 6 ∧ c.filtered = some 6 ∧ (6 : Int).natAbs ≤ cal.zeroBand
    ∧ (c.trackStage cal ⟨false, true, true, 12500, 0⟩ true).zero = some 12346 := by decide

/-- A block with load valid clear, one with it set, and the states in which a sample tests nothing. -/
theorem witness_TelemetrySamplesAreTakenWhole : (telemetryOf [4, 0, 0, 0, 0x0E, 0x10]).map Telemetry.loadValid = some false
    ∧ (telemetryOf [6, 0, 0, 0, 0x0E, 0x10]).map Telemetry.loadValid = some true
    ∧ (base.contexts.get .h1).state ∈ [.idle, .waitingZone, .draining]
    ∧ ((dip .draining 3000 0).contexts.get .h1).state ∈ [.idle, .waitingZone, .draining] := by decide

theorem witness_LoadGeometryAndPairValues : let s := paired .lowering
    joint s = true ∧ joint (dip .lowering 3000 0) = false ∧ joint (paired .abandoned) = false
    ∧ ((dip .lowering 3000 0).contexts.get .h1).tag = some tag
    ∧ ((dip .lowering 3000 0).channels.get .h1).height = some ⟨3000, 5000⟩
    ∧ (base.contexts.get .h1).tag = none ∧ (State.reset.channels.get .h1).height = none := by decide

/-! ### Invariants: each holds of a state whose step has a next state -/

theorem witness_EveryStepKeepsTheDips : dipsOk (dip .weighing 3400 51619) = true ∧ dipsOk (paired .lowering) = true
    ∧ pairsAlike (paired .lowering) = true
    ∧ ∃ t, step { paired .lowering with pending := [.weighTimerExpiry .h1] } = .next t :=
  ⟨by decide +kernel, by decide +kernel, by decide, _, rfl⟩

theorem witness_EveryStepKeepsTheTagsInOrder : tagsNameTables (dip .weighing 3400 51619) = true
    ∧ tagZonesOk (paired .lowering) = true ∧ pollModeOk (paired .lowering) = true
    ∧ ∃ t, step { paired .lowering with pending := [.closeJob q 40117] } = .next t :=
  ⟨by decide +kernel, by decide +kernel, by decide, _, rfl⟩

theorem witness_EveryStepKeepsTheMassesAndTheZeros : massesInRange (dip .weighing 3400 400000) = true
    ∧ zerosInFence base = true ∧ ∃ t, step base = .next t := ⟨by decide, by decide, _, rfl⟩

theorem witness_EveryStepKeepsTheStoredTablesAndTheRatios : storedOk base = true
    ∧ ratiosOk { base with records := [record] } = true ∧ ∃ t, step base = .next t := ⟨by decide +kernel, by decide, _, rfl⟩

theorem witness_EveryStepKeepsThePortsAndTheAppliedValues : portKNeverIsolated base = true ∧ portTimersOk base = true
    ∧ appliedOk base = true ∧ ∃ t, step base = .next t := ⟨by decide, by decide, by decide, _, rfl⟩

end Sys2Proof.Tests
end

section
/-! What every operation of the bay link keeps: the states and timers of the ports (1.6), STOP at speed 0 (R33), and the
form of the frames sent (R20, R21, R159). -/

namespace Sys2Proof.Machine

/-! ## Ports, applied values and frames sent -/

/-- What 1.6 says of a port: its state and the three timers that go with a state. -/
def PortUnit.core (u : PortUnit) : PortState × Option Nat × Option Nat × Option Nat :=
  (u.state, u.recovery, u.restartHold, u.stopTimer)

theorem PortUnit.timersOk_congr {u v : PortUnit} (h : v.core = u.core) : v.timersOk = u.timersOk := by
  simp only [PortUnit.core, Prod.mk.injEq] at h
  obtain ⟨hs, hr, hh, ht⟩ := h
  simp only [PortUnit.timersOk, PortUnit.recoveryOk, hs, hr, hh, ht]

/-- A port's unit `v` after `u`: its timers still run in the states that have them, and port K is not ISOLATED now if it
was not before. -/
def PortLawful (p : Port) (u v : PortUnit) : Prop :=
  (u.timersOk = true → v.timersOk = true) ∧ (p = .k → u.state ≠ .isolated → v.state ≠ .isolated)

theorem PortLawful.of_core {p : Port} {u v : PortUnit} (h : v.core = u.core) : PortLawful p u v := by
  have hs : v.state = u.state := congrArg Prod.fst h
  exact ⟨fun ht => by rw [PortUnit.timersOk_congr h, ht], fun _ hk => by rwa [hs]⟩

/-- `t` comes after `s` with no port's state or timers changed, with the applied values as they were or a STOP exactly at
speed 0, and with well-made frames sent after those of `s`. -/
structure Calm (s t : State) : Prop where
  core : ∀ p, (t.ports.get p).core = (s.ports.get p).core
  applied : ∀ h, (t.motion.get h).applied = (s.motion.get h).applied ∨ (t.motion.get h).applied.stopExactly = true
  sent : ∃ l, t.sent = s.sent ++ l ∧ ∀ x ∈ l, x.wellMade = true

/-- `t` comes after `s` with the laws of the ports and of the applied values kept, and with no ill-made frame sent. -/
structure Lawful (s t : State) : Prop where
  ports : ∀ p, PortLawful p (s.ports.get p) (t.ports.get p)
  applied : ∀ h, (s.motion.get h).applied.stopExactly = true → (t.motion.get h).applied.stopExactly = true
  sent : (∀ x ∈ s.sent, x.wellMade = true) → ∀ x ∈ t.sent, x.wellMade = true

theorem Calm.refl (s : State) : Calm s s := ⟨fun _ => rfl, fun _ => .inl rfl, [], by simp, by simp⟩

theorem Calm.trans {s t u : State} (h : Calm s t) (h' : Calm t u) : Calm s u := by
  obtain ⟨l, hl, wl⟩ := h.sent
  obtain ⟨m, hm, wm⟩ := h'.sent
  refine ⟨fun p => (h'.core p).trans (h.core p), fun x => ?_, l ++ m, by rw [hm, hl, List.append_assoc], ?_⟩
  · rcases h'.applied x with e | e
    · rw [e]; exact h.applied x
    · exact .inr e
  · intro x hx
    rcases List.mem_append.1 hx with hx | hx
    · exact wl x hx
    · exact wm x hx

/-- The later change named first, so that its own form says what came before it. -/
theorem Calm.after {s t u : State} (h' : Calm t u) (h : Calm s t) : Calm s u := h.trans h'

theorem Calm.lawful {s t : State} (h : Calm s t) : Lawful s t := by
  obtain ⟨l, hl, wl⟩ := h.sent
  refine ⟨fun p => .of_core (h.core p), fun x hx => ?_, fun hs x hx => ?_⟩
  · rcases h.applied x with e | e
    · rwa [e]
    · exact e
  · rw [hl] at hx
    exact (List.mem_append.1 hx).elim (hs x) (wl x)

theorem Lawful.trans {s t u : State} (h : Lawful s t) (h' : Lawful t u) : Lawful s u :=
  ⟨fun p => ⟨fun ht => (h'.ports p).1 ((h.ports p).1 ht), fun hp hk => (h'.ports p).2 hp ((h.ports p).2 hp hk)⟩,
    fun x hx => h'.applied x (h.applied x hx), fun hs => h'.sent (h.sent hs)⟩

/-- What changes neither ports nor motion records nor the frames sent. -/
theorem calm_of_same {s t : State} (hp : t.ports = s.ports) (hm : t.motion = s.motion) (hs : t.sent = s.sent) :
    Calm s t := ⟨fun _ => by rw [hp], fun _ => .inl (by rw [hm]), [], by simp [hs], by simp⟩

theorem DipOnly.calm {s t : State} (h : DipOnly s t) : Calm s t := by
  obtain ⟨x, ch, c, o, w, r, n, f, rfl⟩ := h
  exact calm_of_same rfl rfl rfl

/-- A port's unit replaced by one of the same state and timers. -/
theorem calm_setPort {p : Port} {u : PortUnit} {s : State} (h : u.core = (s.ports.get p).core) :
    Calm s (s.setPort p u) := by
  refine ⟨fun r => ?_, fun _ => .inl rfl, [], by simp, by simp⟩
  rw [State.setPort_ports, PerPort.get_set]
  split
  · next hr => rw [h, hr]
  · rfl

theorem calm_setMotion {h : Hoist} {m : HoistMotion} {s : State}
    (hm : m.applied = (s.motion.get h).applied ∨ m.applied.stopExactly = true) : Calm s (s.setMotion h m) := by
  refine ⟨fun _ => rfl, fun x => ?_, [], by simp, by simp⟩
  rw [State.setMotion_motion, PerHoist.get_set]
  split
  · next hx => rw [hx]; exact hm
  · exact .inl rfl

theorem calm_sendUp {f : Frame} {s : State} (h : f.reply = true) : Calm s (sendUp f s) :=
  ⟨fun _ => rfl, fun _ => .inl rfl, _, sendUp_sent s f, by simp [Sent.wellMade, h]⟩

theorem calm_sendDown {p : Port} {f : Frame} {s : State} (hr : f.reply = false) (hl : f.limited = false) :
    Calm s (sendDown p f s) :=
  ⟨fun _ => rfl, fun _ => .inl rfl, _, sendDown_sent s p f, by simp [Sent.wellMade, hr, hl]⟩

theorem calm_localReply (src dest seq code : Byte) (lc : LocalCode) (s : State) :
    Calm s (localReply src dest seq code lc s) := calm_sendUp rfl

theorem calm_answerSlot (sl : Slot) (lc : LocalCode) (s : State) : Calm s (answerSlot sl lc s) := by
  unfold answerSlot
  split
  · exact calm_localReply _ _ _ _ _ s
  · exact .refl s

theorem calm_abandonSlot (p : Port) (lc : LocalCode) (s : State) : Calm s (abandonSlot p lc s) := by
  unfold abandonSlot
  split
  · exact Calm.after (calm_answerSlot _ _ _) (calm_setPort rfl)
  · exact .refl s

theorem calm_takeSlot (p : Port) (o : SlotOrigin) (dest seq code : Byte) (s : State) :
    Calm s (takeSlot p o dest seq code s) := calm_setPort rfl

/-! ## Generated requests -/

theorem calm_sendInSlot (p : Port) (dest code : Byte) (payload : List Byte) (s : State) :
    Calm s (sendInSlot p dest code payload s) := by
  unfold sendInSlot
  refine Calm.trans (t := takeSlot _ _ _ _ _ _) ?_ (calm_of_same rfl rfl rfl)
  exact Calm.after (calm_takeSlot _ _ _ _ _ _) (calm_sendDown rfl rfl)

theorem calm_motionSent {h : Hoist} {v : MotionValues} {m : MotionSender} {s : State} (hv : v.stopExactly = true) :
    Calm s (motionSent h v m s) := calm_setMotion (.inr hv)

theorem calm_sendStop (h : Hoist) (m : MotionSender) (s : State) : Calm s (sendStop h m s) := by
  unfold sendStop
  split
  · exact .refl s
  · exact (calm_sendInSlot _ _ _ _ s).trans (calm_motionSent rfl)

theorem calm_sendPoll (s : State) : Calm s (sendPoll s) := by
  unfold sendPoll
  split
  · exact .refl s
  · exact (calm_sendInSlot _ _ _ _ s).trans (calm_of_same rfl rfl rfl)

theorem calm_sendGenerated (p : Port) (g : GenRequest) (s : State) : Calm s (sendGenerated p g s) := by
  unfold sendGenerated
  split
  · split
    · exact (calm_sendStop _ _ s).trans (calm_of_same rfl rfl rfl)
    · exact .refl s
  · exact calm_sendStop _ _ s
  · exact calm_sendPoll s
  · exact .refl s

theorem calm_generatedDue (p : Port) (g : GenRequest) (s : State) : Calm s (generatedDue p g s) := by
  unfold generatedDue
  split
  · exact calm_sendGenerated p g s
  · exact calm_setPort rfl

theorem calm_sendPending (p : Port) (s : State) : Calm s (sendPending p s) := by
  unfold sendPending
  split
  · split
    · exact Calm.after (calm_sendGenerated _ _ _) (calm_setPort rfl)
    · exact .refl s
  · exact .refl s

theorem calm_pollDue (s : State) : Calm s (pollDue s) := by
  unfold pollDue
  split
  · exact calm_generatedDue _ _ s
  · exact .refl s

theorem calm_setBath (s : State) (b : BathMonitor) : Calm s (s.setBath b) := calm_of_same rfl rfl rfl

theorem calm_toPeriodic (s : State) : Calm s (toPeriodic s) := by
  have timer : ∀ b c : BathMonitor, Calm s ((s.setBath b).setBath c) :=
    fun b c => (calm_setBath s b).trans (calm_setBath _ c)
  unfold toPeriodic
  simp only
  split
  · exact timer _ _
  · split
    · exact timer _ _
    · split
      · split
        · exact timer _ _
        · exact (timer _ _).trans (calm_pollDue _)
      · exact (timer _ _).trans (calm_pollDue _)

theorem calm_syncPollMode (s : State) : Calm s (syncPollMode s) := by
  unfold syncPollMode
  split
  · exact (calm_setBath s _).trans (calm_pollDue _)
  · exact calm_toPeriodic s
  · exact .refl s

/-! ## Samples and aborts -/

theorem calm_markOverload (h : Hoist) (s : State) : Calm s (markOverload h s) := by
  unfold markOverload
  split
  · exact (modContexts_dipOnly _ _ _).calm
  · exact .refl s

theorem calm_takeSample (h : Hoist) (t : Telemetry) (s : State) : Calm s (takeSample h t s) := by
  unfold takeSample contextSample
  refine Calm.trans ?_ (calm_syncPollMode _)
  refine Calm.trans ?_ (inBathUpdates_dipOnly _ _ _).calm
  refine Calm.trans ?_ (transitionTest_dipOnly _ _).calm
  refine Calm.after (calm_markOverload _ _) ?_
  exact calm_of_same (setNoticeIf_ports _ _ _) (setNoticeIf_motion _ _ _) (setNoticeIf_sent _ _ _)

theorem calm_takeBathSample (r : BathReading) (s : State) : Calm s (takeBathSample r s) := by
  obtain ⟨b, f, h⟩ := takeBathSample_only r s
  rw [h]
  exact calm_of_same rfl rfl rfl

theorem calm_readReply (p : Port) (code : Byte) (f : Frame) (s : State) : Calm s (readReply p code f s) := by
  unfold readReply
  split
  · split
    · split
      · exact calm_takeSample _ _ s
      · exact .refl s
    · exact .refl s
  · split
    · split
      · exact calm_takeBathSample _ s
      · exact .refl s
    · exact .refl s

theorem calm_replyUp (o : SlotOrigin) {f : Frame} {s : State} (hf : f.reply = true) : Calm s (replyUp o f s) := by
  unfold replyUp
  split
  · exact calm_sendUp hf
  · exact .refl s

theorem calm_matchedReply (p : Port) (sl : Slot) {f : Frame} {s : State} (hf : f.reply = true) :
    Calm s (matchedReply p sl f s) := by
  unfold matchedReply
  refine Calm.trans ?_ (calm_replyUp _ hf)
  refine Calm.trans ?_ (calm_readReply _ _ _ _)
  exact Calm.after (calm_sendPending p _) (calm_setPort rfl)

theorem calm_abortDip (h : Hoist) (s : State) : Calm s (abortDip h s) := by
  unfold abortDip
  split
  · refine Calm.trans ?_ (calm_syncPollMode _)
    refine DipOnly.calm ?_
    exact ((modContexts_dipOnly _ _ s).trans (closeAborted_accountsOnly _ _ _ _).dipOnly).trans (modContexts_dipOnly _ _ _)
  · exact .refl s

/-! ## Requests sent down -/

/-- STOP stands exactly at speed 0 in the values that motion limiting applies (R33). -/
theorem appliedValues_stopExactly (v : MotionValues) (h : Hoist) (s : State) :
    (appliedValues v h s).stopExactly = true := by
  have hd : (hoistAxis v h s).1 ≠ 0 → v.hoistDir ≠ .stop := by
    intro hn he; simp [hoistAxis, he] at hn
  have td : (travelAxis v h s).1 ≠ 0 → v.travelDir ≠ .stop := by
    intro hn he; simp [travelAxis, he] at hn
  simp only [appliedValues, MotionValues.stopExactly, Bool.and_eq_true, beq_iff_eq]
  constructor
  · by_cases h0 : (hoistAxis v h s).1 = 0
    · simp [h0]
    · simp [h0, hd h0]
  · by_cases h0 : (travelAxis v h s).1 = 0
    · simp [h0]
    · simp [h0, td h0]

theorem calm_forwardRequest (p : Port) {f : Frame} {s : State} (hf : f.reply = false) :
    Calm s (forwardRequest p f s) := by
  unfold forwardRequest
  split
  · unfold forwardMotion
    refine Calm.trans ?_ (calm_motionSent (appliedValues_stopExactly _ _ _))
    refine Calm.trans ?_ (calm_takeSlot _ _ _ _ _ _)
    exact Calm.after (calm_sendDown (by exact hf) rfl) (calm_setMotion (.inl rfl))
  · exact Calm.after (calm_takeSlot _ _ _ _ _ _) (calm_sendDown (by exact hf) rfl)

theorem calm_countHit (i : Nat) (s : State) : Calm s (countHit i s) := calm_of_same rfl rfl rfl

theorem calm_routeRequest {f : Frame} {s : State} (hf : f.reply = false) : Calm s (routeRequest f s) := by
  have answer : ∀ (lc : LocalCode) (s : State), Calm s (answerRequest f lc s) := fun lc s =>
    calm_localReply _ _ _ _ lc s
  unfold routeRequest
  split
  · unfold boundFor
    simp only
    split
    · exact answer _ s
    · exact answer _ s
    · exact answer _ s
    · split
      · exact (calm_countHit _ s).trans (answer _ _)
      · exact (calm_countHit _ s).trans (calm_forwardRequest _ hf)
      · exact calm_forwardRequest _ hf
  · exact answer _ s

theorem calm_broadcast {f : Frame} {s : State} (hf : f.reply = false) : Calm s (broadcast f s) := by
  have one : ∀ (p : Port) (s : State), Calm s (broadcastTo p f s) := by
    intro p s
    unfold broadcastTo
    split
    · exact calm_sendDown (by exact hf) rfl
    · exact .refl s
  have three : ∀ s : State, Calm s (sendBroadcast f s) := fun s => ((one _ s).trans (one _ _)).trans (one _ _)
  unfold broadcast
  split
  · exact calm_countHit _ s
  · exact (calm_countHit _ s).trans (three _)
  · exact three s

/-! ## Port errors and port timers -/

/-- A port's unit replaced by a lawful one. -/
theorem lawful_setPort {p : Port} {u : PortUnit} {s : State} (h : PortLawful p (s.ports.get p) u) :
    Lawful s (s.setPort p u) := by
  refine ⟨fun r => ?_, fun _ hx => hx, fun hs => hs⟩
  rw [State.setPort_ports, PerPort.get_set]
  split
  · next hr => rw [hr]; exact h
  · exact .of_core rfl

/-- Two port replacements with calm between them amount to one lawful replacement, where the second unit is lawful. -/
theorem lawful_between {p : Port} {u : PortUnit} {f : PortUnit → PortUnit} {s t : State}
    (hc : Calm (s.setPort p u) t) (h : ∀ v : PortUnit, v.core = u.core → PortLawful p (s.ports.get p) (f v)) :
    Lawful s (t.setPort p (f (t.ports.get p))) := by
  refine ⟨fun r => ?_, fun x hx => hc.lawful.applied x hx, hc.lawful.sent⟩
  have core := hc.core r
  rw [State.setPort_ports, PerPort.get_set] at core
  rw [State.setPort_ports, PerPort.get_set]
  by_cases hr : r = p
  · subst hr
    rw [if_pos rfl] at core ⊢
    exact h _ core
  · rw [if_neg hr] at core ⊢
    exact .of_core core

theorem portLawful_isolated (h : Hoist) (u v : PortUnit) (d : Nat)
    (hu : u.state = .opened ∨ u.state = .faulted)
    (hv : v.core = (PortState.isolated, none, u.restartHold, u.stopTimer)) :
    PortLawful h.port u { v with stopTimer := some d } := by
  simp only [PortUnit.core, Prod.mk.injEq] at hv
  obtain ⟨hs, hr, hh, _⟩ := hv
  refine ⟨fun ht => ?_, fun hk => by cases h <;> simp [Hoist.port] at hk⟩
  rcases hu with hu | hu <;>
    simp_all [PortUnit.timersOk, PortUnit.recoveryOk]

/-- Isolation ends with the port ISOLATED, its stop timer running and its recovery timer stopped (R16, R17). -/
theorem lawful_isolate (h : Hoist) (s : State)
    (hu : (s.ports.get h.port).state = .opened ∨ (s.ports.get h.port).state = .faulted) : Lawful s (isolate h s) := by
  unfold isolate
  refine lawful_between (f := fun v => { v with stopTimer := some _ })
    (u := { s.ports.get h.port with state := .isolated, recovery := none }) ?_
    (fun v hv => portLawful_isolated h _ v _ hu hv)
  refine Calm.trans ?_ (calm_sendGenerated _ _ _)
  refine Calm.trans ?_ (calm_abortDip _ _)
  refine Calm.trans (t := State.setPort _ _ _) ?_ (calm_of_same rfl rfl rfl)
  exact Calm.after (calm_setPort rfl) (calm_abandonSlot _ _ _)

theorem core_mark (u : PortUnit) (e : PortError) : (u.mark e).core = u.core := by cases e <;> rfl

theorem portLawful_faulted (p : Port) (u : PortUnit) (d : Nat) (hu : u.state = .opened ∨ u.state = .faulted) :
    PortLawful p u { u with state := .faulted, recovery := some d } := by
  refine ⟨fun ht => ?_, fun _ _ => by simp⟩
  rcases hu with hu | hu <;> simp_all [PortUnit.timersOk, PortUnit.recoveryOk]

/-- A port error counted: the kind's flag and PORT FAULT (R12). -/
def countError (p : Port) (e : PortError) (s : State) : State :=
  setNotice .portFault (s.setPort p ((s.ports.get p).mark e))

/-- Neither the flag nor the notice bears on strict stop. -/
theorem strictStops_countError (p r : Port) (e : PortError) (s : State) :
    strictStops r (countError p e s) = strictStops r s := rfl

theorem core_countError (p r : Port) (e : PortError) (s : State) :
    ((countError p e s).ports.get r).core = (s.ports.get r).core := by
  have h := (calm_setPort (s := s) (core_mark (s.ports.get p) e)).core r
  exact h

/-- On an OPEN or FAULTED port without strict stop a port error makes the port FAULTED (R12). -/
theorem portError_faults {p : Port} {e : PortError} {s : State}
    (hu : (s.ports.get p).state = .opened ∨ (s.ports.get p).state = .faulted) (hs : strictStops p s = false) :
    portError p e s = (countError p e s).setPort p { (countError p e s).ports.get p with
      state := .faulted, recovery := some (s.now + (s.tables.ports.get p).recoveryTime) } := by
  have h' : strictStops p (setNotice .portFault (s.setPort p ((s.ports.get p).mark e))) = false := hs
  rcases hu with hu | hu <;> cases hp : Port.hoist p <;> simp only [portError, hu, hp, h'] <;> rfl

/-- With strict stop over the kettle a port error isolates the port (R12, R16). -/
theorem portError_isolates {h : Hoist} {e : PortError} {s : State}
    (hu : (s.ports.get h.port).state = .opened ∨ (s.ports.get h.port).state = .faulted)
    (hs : strictStops h.port s = true) : portError h.port e s = isolate h (countError h.port e s) := by
  have h' : strictStops h.port (setNotice .portFault (s.setPort h.port ((s.ports.get h.port).mark e))) = true := hs
  rcases hu with hu | hu <;> simp only [portError, hu, Hoist.hoist_port, h'] <;> rfl

/-- On an ISOLATED port a port error sets the flag and the notice alone. -/
theorem portError_isolated {p : Port} {e : PortError} {s : State} (hu : (s.ports.get p).state = .isolated) :
    portError p e s = countError p e s := by simp only [portError, hu]; rfl

theorem portError_restarting {p : Port} {e : PortError} {s : State} (hu : (s.ports.get p).state = .restarting) :
    portError p e s = s := by simp only [portError, hu]

/-- Only a hoist's port has strict stop. -/
theorem strictStops_hoist {p : Port} {s : State} (h : strictStops p s = true) : ∃ h : Hoist, h.port = p := by
  cases p with
  | a => exact ⟨.h1, rfl⟩
  | b => exact ⟨.h2, rfl⟩
  | k => simp [strictStops, Port.hoist] at h

theorem lawful_portError (p : Port) (e : PortError) (s : State) : Lawful s (portError p e s) := by
  have marked : Calm s (countError p e s) :=
    Calm.trans (t := State.setPort _ _ _) (calm_setPort (core_mark _ _)) (calm_of_same rfl rfl rfl)
  have counted (hu : (s.ports.get p).state = .opened ∨ (s.ports.get p).state = .faulted) :
      Lawful s (portError p e s) := by
    have hc : ((countError p e s).ports.get p).state = (s.ports.get p).state :=
      congrArg Prod.fst (core_countError p p e s)
    cases hs : strictStops p s with
    | true =>
      obtain ⟨h, rfl⟩ := strictStops_hoist hs
      rw [portError_isolates hu hs]
      exact marked.lawful.trans (lawful_isolate h _ (by rwa [hc]))
    | false =>
      rw [portError_faults hu hs]
      exact marked.lawful.trans (lawful_setPort (portLawful_faulted p _ _ (by rwa [hc])))
  cases hu : (s.ports.get p).state with
  | opened => exact counted (.inl hu)
  | faulted => exact counted (.inr hu)
  | isolated => rw [portError_isolated hu]; exact marked.lawful
  | restarting => rw [portError_restarting hu]; exact (Calm.refl s).lawful

theorem lawful_freeWithError (p : Port) (lc : LocalCode) (e : PortError) (s : State) :
    Lawful s (freeWithError p lc e s) :=
  ((calm_abandonSlot p lc s).lawful.trans (lawful_portError p e _)).trans (calm_sendPending p _).lawful

theorem lawful_receiveDown (p : Port) (bytes : List Byte) (s : State) : Lawful s (receiveDown p bytes s) := by
  unfold receiveDown
  split
  · exact (Calm.refl s).lawful
  · split
    · unfold undamagedFrame
      split
      · split
        · next hm =>
          simp only [Slot.matches, Bool.and_eq_true] at hm
          exact (calm_matchedReply p _ hm.1.1).lawful
        · exact lawful_portError p _ s
      · exact lawful_portError p _ s
    · exact lawful_freeWithError p _ _ s

theorem lawful_replyTimeout (p : Port) (s : State) : Lawful s (replyTimeout p s) := by
  unfold replyTimeout
  split
  · split
    · exact lawful_freeWithError p _ _ s
    · exact (Calm.refl s).lawful
  · exact (Calm.refl s).lawful

theorem lawful_recoveryExpired (p : Port) (s : State) : Lawful s (recoveryExpired p s) := by
  unfold recoveryExpired
  simp only [Bool.and_eq_true, beq_iff_eq]
  split
  · next hd =>
    refine lawful_setPort ⟨fun ht => ?_, fun _ _ => by simp⟩
    simp_all [PortUnit.timersOk, PortUnit.recoveryOk]
  · exact (Calm.refl s).lawful

theorem lawful_stopTimerExpired (h : Hoist) (s : State) : Lawful s (stopTimerExpired h s) := by
  unfold stopTimerExpired
  simp only [Bool.and_eq_true, beq_iff_eq]
  split
  · next hd =>
    refine (lawful_setPort ⟨fun ht => ?_, fun hk => by cases h <;> simp [Hoist.port] at hk⟩).trans
      (calm_generatedDue _ _ _).lawful
    simp_all [PortUnit.timersOk, PortUnit.recoveryOk]
  · exact (Calm.refl s).lawful

theorem lawful_restartHoldExpired (p : Port) (s : State) : Lawful s (restartHoldExpired p s) := by
  unfold restartHoldExpired
  simp only [Bool.and_eq_true, beq_iff_eq]
  split
  · next hd =>
    refine (lawful_setPort ⟨fun ht => ?_, fun _ _ => by simp⟩).trans (calm_sendPending _ _).lawful
    simp_all [PortUnit.timersOk, PortUnit.recoveryOk]
  · exact (Calm.refl s).lawful

theorem calm_commandTimerExpired (h : Hoist) (s : State) : Calm s (commandTimerExpired h s) := by
  unfold commandTimerExpired
  simp only
  split
  · split
    · exact calm_setMotion (.inl rfl)
    · exact Calm.after (calm_generatedDue _ _ _) (calm_setMotion (.inl rfl))
  · exact .refl s

theorem lawful_restartPort (p : Port) (s : State) : Lawful s (restartPort p s) := by
  unfold restartPort
  refine (calm_abandonSlot p .portRestarting s).lawful.trans ?_
  generalize abandonSlot p .portRestarting s = s
  refine lawful_between (f := fun v => { v with state := .restarting, restartHold := some _ })
    (u := { s.ports.get p with
      recovery := none, stopTimer := none
      pending := if (s.ports.get p).state = .isolated ∧ (s.ports.get p).pending = some .isolationStop then none
        else (s.ports.get p).pending }) ?_ (fun v hv => ?_)
  · exact Calm.trans (t := sendDown _ _ _) (calm_sendDown rfl rfl) (calm_of_same rfl rfl rfl)
  · simp only [PortUnit.core, Prod.mk.injEq] at hv
    obtain ⟨_, hr, _, ht⟩ := hv
    exact ⟨fun _ => by simp [PortUnit.timersOk, PortUnit.recoveryOk, hr, ht], fun _ _ => by simp⟩

end Sys2Proof.Machine
end

section
/-! The owning rule of each management request, and what every owning rule answers (R164 to R167). -/

namespace Sys2Proof.Machine

/-! ## The rule of a request -/

/-- The owning rule of a management request (chapter 12.2); a command that is none has none, and nothing is said of it. -/
def ruleOf (i : Instr) (s : State) : Answer :=
  match i with
  | .readStatus _ page => readStatusRule page s
  | .setAddress _ addr => setAddressRule addr s
  | .saveTables _ => accept (startSave s)
  | .loadWindows _ wa wb wk => loadWindowsRule wa wb wk s
  | .readPortStatus _ port page => readPortStatusRule port page s
  | .setPortTiming _ port reply recovery strict => setPortTimingRule port reply recovery strict s
  | .loadTrap _ entry x => loadTrapRule entry x s
  | .readTrap _ entry page => readTrapRule entry page s
  | .loadHoistSettings _ hoist x => loadHoistSettingsRule hoist x s
  | .setOperatorCap _ hoist cap => setOperatorCapRule hoist cap s
  | .readMotion _ page => readMotionRule page s
  | .loadCalibration _ hoist x => loadCalibrationRule hoist x s
  | .lockCalibration _ => lockCalibrationRule s
  | .rezeroHook _ hoist => rezeroHookRule hoist s
  | .readWeight _ hoist page => readWeightRule hoist page s
  | .loadProfile _ number x => loadProfileRule number x s
  | .removeProfile _ number => removeProfileRule number s
  | .readProfile _ number page => readProfileRule number page s
  | .loadJig _ jig tare allowance => loadJigRule jig tare allowance s
  | .withdrawJig _ jig => withdrawJigRule jig s
  | .returnJig _ jig => returnJigRule jig s
  | .removeJig _ jig => removeJigRule jig s
  | .readJig _ jig page => readJigRule jig page s
  | .tagLoad _ x => tagLoadRule x s
  | .cancelLoad _ hoist => cancelLoadRule hoist s
  | .setMaintenancePermit _ hoist value => setMaintenancePermitRule hoist value s
  | .weighJig _ hoist jig => weighJigRule hoist jig s
  | .readContext _ hoist page => readContextRule hoist page s
  | .loadZoneMap _ x => loadZoneMapRule x s
  | .setDrossCeiling _ zone ceiling => setDrossCeilingRule zone ceiling s
  | .setZoneService _ zone value => setZoneServiceRule zone value s
  | .readZones _ page => readZonesRule page s
  | .loadBathSettings _ x => loadBathSettingsRule x s
  | .readBath _ page => readBathRule page s
  | .openJob _ job rMin rMax hold => openJobRule job rMin rMax hold s
  | .setJobBand _ job rMin rMax hold => setJobBandRule job rMin rMax hold s
  | .resumeJob _ job => resumeJobRule job s
  | .closeJob _ job => closeJobRule job s
  | .releaseJob _ job => releaseJobRule job s
  | .readJob _ job page => readJobRule job page s
  | .zincAdded _ mass => zincAddedRule mass s
  | .drossRemoved _ mass => removalRule mass s
  | .ashRemoved _ mass => removalRule mass s
  | .setBalance _ value => setBalanceRule value s
  | .setBalanceToLevel _ => setBalanceToLevelRule s
  | .readBalance _ page => readBalanceRule page s
  | .peekRecord _ => peekRecordRule s
  | .takeRecord _ => takeRecordRule s
  | .readQueue _ page => readQueueRule page s
  | .readNotices _ => readNoticesRule s
  | .clearNotices _ kinds => if kinds.length ≤ 19 then clearNoticesRule kinds s else refuse .badRequest s
  | .setNoticeLevels _ group level enable => setNoticeLevelsRule group level enable s
  | _ => accept s

/-- Whether the catalogue of 10.2 marks a request as changing a stored table (R167). -/
def changesTables : Instr → Bool
  | .setAddress .. | .saveTables .. | .loadWindows .. | .setPortTiming .. | .loadTrap .. | .loadHoistSettings ..
  | .loadCalibration .. | .lockCalibration .. | .loadProfile .. | .removeProfile .. | .loadJig .. | .withdrawJig ..
  | .returnJig .. | .removeJig .. | .loadZoneMap .. | .setDrossCeiling .. | .setZoneService .. | .loadBathSettings ..
  | .openJob .. | .setJobBand .. | .resumeJob .. | .closeJob .. | .releaseJob .. | .zincAdded .. | .drossRemoved ..
  | .ashRemoved .. | .setBalance .. | .setBalanceToLevel .. | .setNoticeLevels .. => true
  | _ => false

/-- Every management request but RESTART SEGMENT is taken by `manage` under its own code, with its owning rule. -/
theorem exec_manage {i : Instr} {code : Byte} (hc : managementCode i = some code)
    (hr : ∀ q n, i ≠ .restartSegment q n) (s : State) :
    exec i s = manage (requester i) code (changesTables i) (ruleOf i) s := by
  cases i
  case restartSegment q n => exact absurd rfl (hr q n)
  all_goals first | cases hc; rfl | nomatch hc

/-- A frame that spells a management request runs the command itself. -/
theorem runManagement_eq {i : Instr} {code : Byte} (hc : managementCode i = some code) (s : State) :
    runManagement i s = exec i s := by
  cases i
  all_goals first | rfl | nomatch hc

/-! ## What a rule answers -/

/-- What the effect of a rule changes: it is calm, and sends nothing up. -/
structure Effect (s t : State) : Prop extends Calm s t where
  ups : upFrames t.sent = upFrames s.sent

theorem Effect.refl (s : State) : Effect s s := ⟨.refl s, rfl⟩

theorem Effect.trans {s t u : State} (h : Effect s t) (h' : Effect t u) : Effect s u :=
  ⟨h.toCalm.trans h'.toCalm, h'.ups.trans h.ups⟩

theorem Effect.of_same {s t : State} (hp : t.ports = s.ports) (hm : t.motion = s.motion) (hs : t.sent = s.sent) :
    Effect s t := ⟨calm_of_same hp hm hs, by rw [hs]⟩

/-- An answer of a rule taken in `s`: a status other than DONE carries no data and changes nothing, and the state after
it is an effect (R165, R166). -/
structure Answer.Sound (s : State) (r : Answer) : Prop where
  data : r.status ≠ .done → r.data = []
  kept : r.status ≠ .done → r.state = s
  effect : Effect s r.state

theorem sound_refuse (st : Status) (s : State) : (refuse st s).Sound s := ⟨fun _ => rfl, fun _ => rfl, .refl s⟩

theorem sound_done {s t : State} {data : List Byte} (h : Effect s t) :
    Answer.Sound s { status := .done, data, state := t } := ⟨fun hn => absurd rfl hn, fun hn => absurd rfl hn, h⟩

theorem sound_accept {s t : State} (h : Effect s t) : (accept t).Sound s := sound_done h

/-- DONE with ports, motion records and frames as they were. -/
theorem sound_accept_same {s t : State} (hp : t.ports = s.ports) (hm : t.motion = s.motion) (hs : t.sent = s.sent) :
    (accept t).Sound s := sound_accept (.of_same hp hm hs)

theorem sound_readPage {s t : State} (page : Nat) (items : List Item) (h : Effect s t) :
    (readPage page items s t).Sound s := by
  unfold readPage
  split
  · exact sound_done h
  · exact sound_refuse _ s

/-- A reading that changes nothing. -/
theorem sound_reading (page : Nat) (items : List Item) (s : State) : (readPage page items s s).Sound s :=
  sound_readPage page items (.refl s)

/-- A check before the rest of a rule. -/
theorem sound_check {c : Prop} [Decidable c] {st : Status} {s : State} {r : Answer} (h : r.Sound s) :
    (if c then refuse st s else r).Sound s := by
  split
  · exact sound_refuse _ s
  · exact h

/-! ## The rules of the link and the filter -/

theorem setAddressRule_sound (a : Nat) (s : State) : (setAddressRule a s).Sound s := by
  unfold setAddressRule
  simp only
  split
  · exact sound_accept_same rfl rfl rfl
  · exact sound_refuse _ s

theorem loadWindowsRule_sound (wa wb wk : Window) (s : State) : (loadWindowsRule wa wb wk s).Sound s := by
  unfold loadWindowsRule
  simp only
  split
  · exact sound_accept_same rfl rfl rfl
  · exact sound_refuse _ s

theorem readPortStatusRule_sound (port page : Nat) (s : State) : (readPortStatusRule port page s).Sound s := by
  unfold readPortStatusRule
  split
  · exact sound_refuse _ s
  · refine sound_readPage _ _ ?_
    split
    · exact ⟨calm_setPort rfl, rfl⟩
    · exact .refl s

theorem setPortTimingRule_sound (port reply recovery strict : Nat) (s : State) :
    (setPortTimingRule port reply recovery strict s).Sound s := by
  unfold setPortTimingRule
  split
  · split
    · exact sound_accept_same rfl rfl rfl
    · exact sound_refuse _ s
  · exact sound_refuse _ s

theorem loadTrapRule_sound (entry : Nat) (x : TrapArgs) (s : State) : (loadTrapRule entry x s).Sound s := by
  unfold loadTrapRule
  split
  · exact sound_accept_same rfl rfl rfl
  · exact sound_refuse _ s

theorem readTrapRule_sound (entry page : Nat) (s : State) : (readTrapRule entry page s).Sound s := by
  unfold readTrapRule
  split
  · exact sound_reading _ _ s
  · exact sound_refuse _ s

theorem loadHoistSettingsRule_sound (hoist : Nat) (x : HoistArgs) (s : State) :
    (loadHoistSettingsRule hoist x s).Sound s := by
  unfold loadHoistSettingsRule
  split
  · exact sound_refuse _ s
  · refine sound_check (sound_check (sound_accept ⟨?_, rfl⟩))
    exact Calm.after (calm_setMotion (.inl rfl)) (calm_of_same rfl rfl rfl)

theorem setOperatorCapRule_sound (hoist cap : Nat) (s : State) : (setOperatorCapRule hoist cap s).Sound s := by
  unfold setOperatorCapRule
  split
  · exact sound_refuse _ s
  · split
    · exact sound_accept ⟨calm_setMotion (.inl rfl), rfl⟩
    · exact sound_refuse _ s

/-! ## The rules of the weighing channels and the tables -/

theorem loadCalibrationRule_sound (hoist : Nat) (x : CalRecord) (s : State) :
    (loadCalibrationRule hoist x s).Sound s := by
  unfold loadCalibrationRule
  split
  · exact sound_refuse _ s
  · exact sound_check (sound_check (sound_check (sound_accept_same rfl rfl rfl)))

theorem lockCalibrationRule_sound (s : State) : (lockCalibrationRule s).Sound s := by
  unfold lockCalibrationRule
  split
  · exact sound_accept (.refl s)
  · exact sound_check (sound_accept_same rfl rfl rfl)

theorem rezeroHookRule_sound (hoist : Nat) (s : State) : (rezeroHookRule hoist s).Sound s := by
  unfold rezeroHookRule
  split
  · exact sound_refuse _ s
  · split
    · exact sound_refuse _ s
    · split
      · exact sound_refuse _ s
      · split
        · exact sound_accept_same rfl rfl rfl
        · exact sound_refuse _ s

theorem readWeightRule_sound (hoist page : Nat) (s : State) : (readWeightRule hoist page s).Sound s := by
  unfold readWeightRule
  split
  · exact sound_refuse _ s
  · exact sound_reading _ _ s

theorem loadProfileRule_sound (number : Nat) (x : Profile) (s : State) : (loadProfileRule number x s).Sound s :=
  sound_check (sound_check (sound_check (sound_accept_same rfl rfl rfl)))

theorem removeProfileRule_sound (number : Nat) (s : State) : (removeProfileRule number s).Sound s :=
  sound_check (sound_check (sound_check (sound_accept_same rfl rfl rfl)))

theorem readProfileRule_sound (number page : Nat) (s : State) : (readProfileRule number page s).Sound s := by
  unfold readProfileRule
  refine sound_check ?_
  split
  · exact sound_refuse _ s
  · exact sound_reading _ _ s

theorem loadJigRule_sound (jig tare allowance : Nat) (s : State) : (loadJigRule jig tare allowance s).Sound s := by
  unfold loadJigRule
  refine sound_check ?_
  split
  · exact sound_check (sound_accept_same rfl rfl rfl)
  · exact sound_check (sound_accept_same rfl rfl rfl)

theorem withdrawJigRule_sound (jig : Nat) (s : State) : (withdrawJigRule jig s).Sound s :=
  sound_check (sound_check (sound_accept_same rfl rfl rfl))

theorem returnJigRule_sound (jig : Nat) (s : State) : (returnJigRule jig s).Sound s :=
  sound_check (sound_accept_same rfl rfl rfl)

theorem removeJigRule_sound (jig : Nat) (s : State) : (removeJigRule jig s).Sound s :=
  sound_check (sound_check (sound_accept_same rfl rfl rfl))

theorem readJigRule_sound (jig page : Nat) (s : State) : (readJigRule jig page s).Sound s := by
  unfold readJigRule
  split
  · exact sound_refuse _ s
  · exact sound_reading _ _ s

/-! ## The rules of the dips and the zones -/

/-- TAG LOAD clears the permit of a hoist it names, and answers from there (R71). -/
theorem tagLoadRule_sound (x : TagArgs) (s : State) : ∃ s', Effect s s' ∧ (tagLoadRule x s).Sound s' := by
  unfold tagLoadRule
  split
  · exact ⟨s, .refl s, sound_refuse _ s⟩
  · next h _ =>
    refine ⟨clearPermit h s, .of_same rfl rfl rfl, ?_⟩
    split
    · exact sound_refuse _ _
    · obtain ⟨c, o, ht, _⟩ := takeTag_contexts h x (clearPermit h s)
      rw [ht]
      exact sound_accept_same rfl rfl rfl

/-- CANCEL LOAD changes contexts and the waiting claim. -/
theorem cancelTag_claimsOnly (h : Hoist) (s : State) : ClaimsOnly s (cancelTag h s) := by
  unfold cancelTag
  simp only
  split <;> split <;> exact ⟨_, _, _, rfl⟩

theorem cancelLoadRule_sound (hoist : Nat) (s : State) : (cancelLoadRule hoist s).Sound s := by
  unfold cancelLoadRule
  split
  · exact sound_refuse _ s
  · next h _ =>
    obtain ⟨o, w, c, hc⟩ := cancelTag_claimsOnly h s
    rw [hc]
    split
    · exact sound_accept (.refl s)
    all_goals first | exact sound_refuse _ s | exact sound_accept_same rfl rfl rfl

theorem setMaintenancePermitRule_sound (hoist value : Nat) (s : State) :
    (setMaintenancePermitRule hoist value s).Sound s := by
  unfold setMaintenancePermitRule
  split
  · split
    · exact sound_accept_same rfl rfl rfl
    · exact sound_refuse _ s
  · exact sound_accept_same rfl rfl rfl
  · exact sound_refuse _ s

theorem weighJigRule_sound (hoist jig : Nat) (s : State) : (weighJigRule hoist jig s).Sound s := by
  unfold weighJigRule
  split
  · exact sound_refuse _ s
  · exact sound_check (sound_check (sound_check (sound_check (sound_accept_same rfl rfl rfl))))

theorem readContextRule_sound (hoist page : Nat) (s : State) : (readContextRule hoist page s).Sound s := by
  unfold readContextRule
  split
  · exact sound_refuse _ s
  · exact sound_reading _ _ s

theorem loadZoneMapRule_sound (x : ZoneMapArgs) (s : State) : (loadZoneMapRule x s).Sound s := by
  unfold loadZoneMapRule
  refine sound_check ?_
  split
  · exact sound_accept_same rfl rfl rfl
  · exact sound_refuse _ s

theorem setDrossCeilingRule_sound (zone : Nat) (ceiling : Int) (s : State) :
    (setDrossCeilingRule zone ceiling s).Sound s := by
  unfold setDrossCeilingRule
  split
  · exact sound_refuse _ s
  · exact sound_check (sound_check (sound_accept_same rfl rfl rfl))

theorem setZoneServiceRule_sound (zone value : Nat) (s : State) : (setZoneServiceRule zone value s).Sound s := by
  unfold setZoneServiceRule
  split
  · exact sound_check (sound_accept_same rfl rfl rfl)
  · exact sound_refuse _ s

/-! ## The rules of the bath, the accounts, the records and the notices -/

theorem PollOnly.effect {s t : State} (h : PollOnly s t) (hc : Calm s t) : Effect s t := by
  obtain ⟨l, n, u, b, hl, rfl⟩ := h
  exact ⟨hc, by simp [hl]⟩

theorem redateFigures_effect (staleTime : Nat) (s : State) : Effect s (redateFigures staleTime s) := by
  unfold redateFigures
  simp only
  split
  · unfold holdStale
    exact .of_same (setNoticeIf_ports _ _ _) (setNoticeIf_motion _ _ _) (setNoticeIf_sent _ _ _)
  · exact .of_same rfl rfl rfl

theorem changeBathStation_effect (before after : Option Nat) (s : State) :
    Effect s (changeBathStation before after s) := by
  unfold changeBathStation
  split
  · exact (pollDue_pollOnly s).effect (calm_pollDue s)
  · exact ⟨Calm.after (calm_setBath _ _) (calm_setPort rfl), rfl⟩
  · exact .refl s

theorem loadBathSettingsRule_sound (x : BathArgs) (s : State) : (loadBathSettingsRule x s).Sound s := by
  refine sound_check (sound_check (sound_check (sound_accept ?_)))
  refine Effect.trans ?_ (changeBathStation_effect _ _ _)
  refine Effect.trans ?_ (redateFigures_effect _ _)
  exact .of_same rfl rfl rfl

theorem openJobRule_sound (job rMin rMax hold : Nat) (s : State) : (openJobRule job rMin rMax hold s).Sound s :=
  sound_check (sound_check (sound_check (sound_accept_same rfl rfl rfl)))

theorem setJobBandRule_sound (job rMin rMax hold : Nat) (s : State) :
    (setJobBandRule job rMin rMax hold s).Sound s := by
  unfold setJobBandRule
  refine sound_check ?_
  split
  · exact sound_refuse _ s
  · exact sound_check (sound_accept_same rfl rfl rfl)

theorem resumeJobRule_sound (job : Nat) (s : State) : (resumeJobRule job s).Sound s := by
  unfold resumeJobRule
  split
  · exact sound_refuse _ s
  · exact sound_check (sound_accept_same rfl rfl rfl)

theorem closeJobRule_sound (job : Nat) (s : State) : (closeJobRule job s).Sound s :=
  sound_check (sound_check (sound_accept_same rfl rfl rfl))

theorem releaseJobRule_sound (job : Nat) (s : State) : (releaseJobRule job s).Sound s := by
  unfold releaseJobRule
  split
  · exact sound_refuse _ s
  · exact sound_check (sound_accept_same rfl rfl rfl)

theorem readJobRule_sound (job page : Nat) (s : State) : (readJobRule job page s).Sound s := by
  unfold readJobRule
  split
  · exact sound_refuse _ s
  · exact sound_reading _ _ s

theorem zincAddedRule_sound (mass : Nat) (s : State) : (zincAddedRule mass s).Sound s :=
  sound_check (sound_check (sound_accept_same rfl rfl rfl))

theorem removalRule_sound (mass : Nat) (s : State) : (removalRule mass s).Sound s :=
  sound_check (sound_accept_same (setNoticeIf_ports _ _ _) (setNoticeIf_motion _ _ _) (setNoticeIf_sent _ _ _))

theorem setBalanceRule_sound (value : Nat) (s : State) : (setBalanceRule value s).Sound s :=
  sound_check (sound_accept_same rfl rfl rfl)

theorem setBalanceToLevelRule_sound (s : State) : (setBalanceToLevelRule s).Sound s := by
  unfold setBalanceToLevelRule
  split
  · exact sound_refuse _ s
  · exact sound_check (sound_check (sound_accept_same rfl rfl rfl))

theorem peekRecordRule_sound (s : State) : (peekRecordRule s).Sound s := by
  unfold peekRecordRule
  split
  · exact sound_refuse _ s
  · exact sound_done (.refl s)

theorem takeRecordRule_sound (s : State) : (takeRecordRule s).Sound s := by
  unfold takeRecordRule
  split
  · exact sound_refuse _ s
  · exact sound_done (.of_same rfl rfl rfl)

theorem clearNoticesRule_sound (kinds : List Nat) (s : State) : (clearNoticesRule kinds s).Sound s := by
  unfold clearNoticesRule
  split
  · exact sound_done (.of_same rfl rfl rfl)
  · exact sound_refuse _ s

theorem setNoticeLevelsRule_sound (group level enable : Nat) (s : State) :
    (setNoticeLevelsRule group level enable s).Sound s := by
  unfold setNoticeLevelsRule
  split
  · split
    · exact sound_accept_same rfl rfl rfl
    · exact sound_refuse _ s
  · exact sound_refuse _ s

/-- What every owning rule but TAG LOAD's answers. -/
theorem ruleOf_sound (i : Instr) (s : State) (ht : ∀ q x, i ≠ .tagLoad q x) : (ruleOf i s).Sound s := by
  cases i with
  | readStatus q page => exact sound_readPage _ _ (.of_same rfl rfl rfl)
  | setAddress q a => exact setAddressRule_sound a s
  | saveTables q => exact sound_accept_same rfl rfl rfl
  | loadWindows q wa wb wk => exact loadWindowsRule_sound wa wb wk s
  | readPortStatus q port page => exact readPortStatusRule_sound port page s
  | setPortTiming q port reply recovery strict => exact setPortTimingRule_sound port reply recovery strict s
  | loadTrap q entry x => exact loadTrapRule_sound entry x s
  | readTrap q entry page => exact readTrapRule_sound entry page s
  | loadHoistSettings q hoist x => exact loadHoistSettingsRule_sound hoist x s
  | setOperatorCap q hoist cap => exact setOperatorCapRule_sound hoist cap s
  | loadCalibration q hoist x => exact loadCalibrationRule_sound hoist x s
  | lockCalibration q => exact lockCalibrationRule_sound s
  | rezeroHook q hoist => exact rezeroHookRule_sound hoist s
  | readWeight q hoist page => exact readWeightRule_sound hoist page s
  | loadProfile q number x => exact loadProfileRule_sound number x s
  | removeProfile q number => exact removeProfileRule_sound number s
  | readProfile q number page => exact readProfileRule_sound number page s
  | loadJig q jig tare allowance => exact loadJigRule_sound jig tare allowance s
  | withdrawJig q jig => exact withdrawJigRule_sound jig s
  | returnJig q jig => exact returnJigRule_sound jig s
  | removeJig q jig => exact removeJigRule_sound jig s
  | readJig q jig page => exact readJigRule_sound jig page s
  | tagLoad q x => exact absurd rfl (ht q x)
  | cancelLoad q hoist => exact cancelLoadRule_sound hoist s
  | setMaintenancePermit q hoist value => exact setMaintenancePermitRule_sound hoist value s
  | weighJig q hoist jig => exact weighJigRule_sound hoist jig s
  | readContext q hoist page => exact readContextRule_sound hoist page s
  | loadZoneMap q x => exact loadZoneMapRule_sound x s
  | setDrossCeiling q zone ceiling => exact setDrossCeilingRule_sound zone ceiling s
  | setZoneService q zone value => exact setZoneServiceRule_sound zone value s
  | loadBathSettings q x => exact loadBathSettingsRule_sound x s
  | openJob q job rMin rMax hold => exact openJobRule_sound job rMin rMax hold s
  | setJobBand q job rMin rMax hold => exact setJobBandRule_sound job rMin rMax hold s
  | resumeJob q job => exact resumeJobRule_sound job s
  | closeJob q job => exact closeJobRule_sound job s
  | releaseJob q job => exact releaseJobRule_sound job s
  | readJob q job page => exact readJobRule_sound job page s
  | zincAdded q mass => exact zincAddedRule_sound mass s
  | drossRemoved q mass => exact removalRule_sound mass s
  | ashRemoved q mass => exact removalRule_sound mass s
  | setBalance q value => exact setBalanceRule_sound value s
  | setBalanceToLevel q => exact setBalanceToLevelRule_sound s
  | peekRecord q => exact peekRecordRule_sound s
  | takeRecord q => exact takeRecordRule_sound s
  | clearNotices q kinds =>
    simp only [ruleOf]
    split
    · exact clearNoticesRule_sound kinds s
    · exact sound_refuse _ s
  | setNoticeLevels q group level enable => exact setNoticeLevelsRule_sound group level enable s
  | readNotices q => exact sound_done (.refl s)
  | readMotion q page => exact sound_reading page (motionItems .h1 s ++ motionItems .h2 s) s
  | readZones q page => exact sound_reading page (arbiterItems s) s
  | readBath q page => exact sound_reading page (bathItems s) s
  | readBalance q page => exact sound_reading page (balanceItems s) s
  | readQueue q page => exact sound_reading page (queueItems s) s
  | _ => exact sound_accept (.refl s)

/-- The effect of every owning rule. -/
theorem ruleOf_effect (i : Instr) (s : State) : Effect s (ruleOf i s).state := by
  by_cases ht : ∃ q x, i = .tagLoad q x
  · obtain ⟨q, x, rfl⟩ := ht
    obtain ⟨s', he, hs⟩ := tagLoadRule_sound x s
    exact he.trans hs.effect
  · exact (ruleOf_sound i s (fun q x h => ht ⟨q, x, h⟩)).effect

/-- A refusal of any owning rule carries no data. -/
theorem ruleOf_data (i : Instr) (s : State) (hd : (ruleOf i s).status ≠ .done) : (ruleOf i s).data = [] := by
  by_cases ht : ∃ q x, i = .tagLoad q x
  · obtain ⟨q, x, rfl⟩ := ht
    obtain ⟨s', _, hs⟩ := tagLoadRule_sound x s
    exact hs.data hd
  · exact (ruleOf_sound i s (fun q x h => ht ⟨q, x, h⟩)).data hd

end Sys2Proof.Machine
end

section
/-! Frames to the own address (R164, R167), and what every command keeps. -/

namespace Sys2Proof.Machine

/-! ## The form check (R167) -/

/-- What the form check accepts is spelled as a request of its own code and requester. -/
theorem decodeManagement_admitted {code : Byte} {p : List Byte} (q : Req) (h : admits code p.length = true) :
    ∃ i, decodeManagement q code p = some i ∧ managementCode i = some code ∧ requester i = q := by
  have hb : BitVec.ofNat 8 code.toNat = code := by simp
  unfold decodeManagement
  rw [if_pos h]
  unfold admits at h
  split at h
  all_goals first
    | next hc => exact ⟨_, rfl, congrArg some (hc ▸ hb), rfl⟩
    | nomatch h

/-- A request is spelled exactly by a code and a payload length that the form check admits. -/
theorem decodeManagement_isSome (q : Req) (code : Byte) (p : List Byte) :
    (decodeManagement q code p).isSome = admits code p.length := by
  cases h : admits code p.length with
  | true =>
    obtain ⟨i, hi, _⟩ := decodeManagement_admitted q h
    rw [hi]; rfl
  | false => simp [decodeManagement, h]

theorem decodeManagement_code {q : Req} {code : Byte} {p : List Byte} {i : Instr}
    (h : decodeManagement q code p = some i) : managementCode i = some code ∧ requester i = q := by
  have ha : admits code p.length = true := by rw [← decodeManagement_isSome q, h]; rfl
  obtain ⟨j, hj, hc, hq⟩ := decodeManagement_admitted q ha
  obtain rfl : j = i := Option.some.inj (hj.symm.trans h)
  exact ⟨hc, hq⟩

/-- A request that is spelled runs as its own command. -/
theorem managementRequest_some {q : Req} {code : Byte} {p : List Byte} {i : Instr} (s : State)
    (h : decodeManagement q code p = some i) : managementRequest q code p s = exec i s := by
  simp only [managementRequest, h]
  exact runManagement_eq (decodeManagement_code h).1 s

/-- A request that the form check does not admit is answered BAD REQUEST and changes nothing. -/
theorem managementRequest_bad {code : Byte} {p : List Byte} (q : Req) (s : State)
    (h : admits code p.length = false) : managementRequest q code p s = .next (answered q code .badRequest [] s s) := by
  have hn : decodeManagement q code p = none := by simp [decodeManagement, h]
  simp only [managementRequest, hn, badRequest, reply_begin]

/-! ## What every command keeps -/

theorem calm_reply (q : Req) (own code : Byte) (st : Status) (data : List Byte) (s : State) :
    Calm s (reply q own code st data s) := calm_sendUp rfl

theorem calm_answered (q : Req) (code : Byte) (st : Status) (data : List Byte) (s : State) :
    Calm s.begin (answered q code st data s s) := by
  rw [← reply_begin]
  exact calm_reply _ _ _ _ _ _

theorem calm_manage {q : Req} {code : Byte} {stored : Bool} {i : Instr} {s t : State}
    (h : manage q code stored (ruleOf i) s = .next t) : Calm s.begin t := by
  rw [manage_next] at h
  injection h with h
  subst h
  split
  · exact calm_answered _ _ _ _ s
  · exact (ruleOf_effect i s.begin).toCalm.trans (calm_reply _ _ _ _ _ _)

theorem lawful_restartSegment {q : Req} {n : Nat} {s t : State} (h : exec (.restartSegment q n) s = .next t) :
    Lawful s.begin t := by
  simp only [exec, execRestartSegment] at h
  split at h
  · injection h with h
    subst h
    exact (calm_reply _ _ _ _ _ _).lawful
  · split at h
    · injection h with h
      subst h
      exact (calm_reply _ _ _ _ _ _).lawful
    · injection h with h
      subst h
      exact (calm_reply _ _ _ _ _ _).lawful.trans (lawful_restartPort _ _)

/-- Every management request is lawful. -/
theorem lawful_management {i : Instr} {code : Byte} {s t : State} (hc : managementCode i = some code)
    (h : exec i s = .next t) : Lawful s.begin t := by
  by_cases hr : ∃ q n, i = .restartSegment q n
  · obtain ⟨q, n, rfl⟩ := hr
    exact lawful_restartSegment h
  · rw [exec_manage hc (fun q n hi => hr ⟨q, n, hi⟩)] at h
    exact (calm_manage h).lawful

theorem lawful_managementRequest {q : Req} {code : Byte} {p : List Byte} {s t : State}
    (h : managementRequest q code p s = .next t) : Lawful s.begin t := by
  cases hd : decodeManagement q code p with
  | some i =>
    rw [managementRequest_some s hd] at h
    exact lawful_management (decodeManagement_code hd).1 h
  | none =>
    have ha : admits code p.length = false := by rw [← decodeManagement_isSome q, hd]; rfl
    rw [managementRequest_bad q s ha] at h
    injection h with h
    subst h
    exact (calm_answered _ _ _ _ s).lawful

theorem lawful_upstreamFrame {bytes : List Byte} {s t : State} (h : exec (.upstreamFrame bytes) s = .next t) :
    Lawful s.begin t := by
  simp only [exec, execUpstreamFrame] at h
  split at h
  · next f _ =>
    unfold upstream at h
    split at h
    · injection h with h
      subst h
      exact (Calm.refl _).lawful
    · next hf =>
      simp only [Bool.not_eq_true] at hf
      split at h
      · exact lawful_managementRequest h
      · split at h
        · injection h with h
          subst h
          exact (calm_broadcast hf).lawful
        · injection h with h
          subst h
          exact (calm_routeRequest hf).lawful
  · injection h with h
    subst h
    exact Calm.lawful (calm_of_same rfl rfl rfl)

/-- The start-up puts every port into OPEN with its timers stopped, and every applied value at a stop. -/
theorem lawful_startState (image : Option StoredImage) (cause : RestartCause) (service : Bool) (waiting : List Instr)
    (s : State) : Lawful s.begin (startState image cause service waiting) := by
  have ports : ∀ p, (startState image cause service waiting).ports.get p = .initial := by
    intro p; cases p <;> rfl
  refine ⟨fun p => ?_, fun h _ => by cases h <;> rfl, fun _ x hx => nomatch hx⟩
  rw [ports]
  exact ⟨fun _ => by decide, fun _ _ => by decide⟩

/-- The drain dwell's expiry changes the dip and the poll schedule. -/
theorem calm_drainDwellExpiry (h : Hoist) (s : State) :
    Calm s.begin (if timerDue .draining Context.drainTimer h s.begin then drainExpired h s.begin else s.begin) := by
  split
  · unfold drainExpired
    split
    · exact Calm.after (calm_syncPollMode _) (enterWeighing_dipOnly _ _ _).calm
    · exact .refl _
  · exact .refl _

theorem calm_weighTimerExpiry (h : Hoist) (s : State) :
    Calm s.begin (if timerDue .weighing Context.weighTimer h s.begin then weighExpired h s.begin else s.begin) := by
  split
  · unfold weighExpired finishDip
    split
    · refine Calm.after (calm_syncPollMode _) (DipOnly.calm ?_)
      exact (closeUnweighed_accountsOnly _ _ _ _).dipOnly.trans
        ((releaseClaim_claimsOnly _ _).dipOnly.trans (modContexts_dipOnly _ _ _))
    · exact .refl _
  · exact .refl _

theorem calm_jigWeighTimerExpiry (h : Hoist) (s : State) :
    Calm s.begin (if timerDue .jigWeigh (fun c => c.jigWeigh.timer) h s.begin then jigWeighExpired h s.begin
      else s.begin) := by
  split
  · exact calm_of_same rfl rfl rfl
  · exact .refl _

theorem calm_pollTimerExpiry (s : State) :
    Calm s.begin (if due s.bath.pollTimer s.begin then pollDue (s.begin.setBath { s.bath with pollTimer := none })
      else s.begin) := by
  split
  · exact Calm.after (calm_pollDue _) (calm_setBath _ _)
  · exact .refl _

theorem calm_staleExpiry (fig : BathFigure) (s : State) :
    Calm s.begin (if due ((s.bath.figure fig).bind Figure.deadline) s.begin then staleExpired fig s.begin
      else s.begin) := by
  split
  · unfold staleExpired holdStale
    exact calm_of_same (setNoticeIf_ports _ _ _) (setNoticeIf_motion _ _ _) (setNoticeIf_sent _ _ _)
  · exact .refl _

theorem calm_completeSave (s : State) : Calm s (completeSave s) := by
  unfold completeSave
  split
  · exact calm_of_same rfl rfl rfl
  · exact .refl s

/-- Every command keeps the laws of the ports and of the applied values, and sends well-made frames alone. -/
theorem exec_lawful {i : Instr} {s t : State} (h : exec i s = .next t) : Lawful s.begin t := by
  have next {u : State} (hu : Lawful s.begin u) (e : Host.Outcome.next (φ := Fault) (ρ := Refusal) u = .next t) :
      Lawful s.begin t := by
    injection e with e; rwa [← e]
  cases hc : managementCode i with
  | some code => exact lawful_management hc h
  | none =>
    cases i with
    | upstreamFrame bytes => exact lawful_upstreamFrame h
    | downstreamFrame p bytes => exact next (lawful_receiveDown p bytes _) h
    | replyTimerExpiry p => exact next (lawful_replyTimeout p _) h
    | recoveryTimerExpiry p => exact next (lawful_recoveryExpired p _) h
    | isolationStopTimerExpiry x => exact next (lawful_stopTimerExpired x _) h
    | restartHoldExpiry p => exact next (lawful_restartHoldExpired p _) h
    | commandTimerExpiry x => exact next (calm_commandTimerExpired x _).lawful h
    | drainDwellExpiry x => exact next (calm_drainDwellExpiry x s).lawful h
    | weighTimerExpiry x => exact next (calm_weighTimerExpiry x s).lawful h
    | jigWeighTimerExpiry x => exact next (calm_jigWeighTimerExpiry x s).lawful h
    | pollTimerExpiry => exact next (calm_pollTimerExpiry s).lawful h
    | staleExpiry fig => exact next (calm_staleExpiry fig s).lawful h
    | saveCompletion => exact next (calm_completeSave _).lawful h
    | deviceReset cause service => exact next ((lawful_startState _ _ _ _ s).trans (calm_pollDue _).lawful) h
    | unassignedManagementCode q code p => exact lawful_managementRequest h
    | _ => nomatch hc

end Sys2Proof.Machine
end

section
/-! What every step and every command keep of the ports, the applied values and the frames, and the answer to every
management request (1.6, R18, R33, R164 to R167). -/

namespace Sys2Proof.Machine

/-- A step keeps the laws of the ports and of the applied values. -/
theorem step_lawful {s t : State} (h : step s = .next t) :
    (∀ p, PortLawful p (s.ports.get p) (t.ports.get p))
      ∧ ∀ x, (s.motion.get x).applied.stopExactly = true → (t.motion.get x).applied.stopExactly = true := by
  unfold step at h
  split at h
  · have hl := exec_lawful h
    exact ⟨hl.ports, hl.applied⟩
  · injection h with h
    subst h
    exact ⟨fun _ => .of_core rfl, fun _ hx => hx⟩

theorem portTimersOk_iff (s : State) : portTimersOk s = true ↔ ∀ p, (s.ports.get p).timersOk = true := by
  simp only [portTimersOk, Bool.and_eq_true]
  exact ⟨fun ⟨⟨ha, hb⟩, hk⟩ p => by cases p <;> assumption, fun h => ⟨⟨h .a, h .b⟩, h .k⟩⟩

theorem appliedOk_iff (s : State) : appliedOk s = true ↔ ∀ h, (s.motion.get h).applied.stopExactly = true := by
  simp only [appliedOk, onBoth, Bool.and_eq_true]
  exact ⟨fun ⟨h1, h2⟩ h => by cases h <;> assumption, fun h => ⟨h .h1, h .h2⟩⟩

/-- Settles O60: every command is lawful (`exec_lawful`), and a millisecond changes neither ports nor motion records. -/
theorem everyStepKeepsThePortsAndTheAppliedValues : Obligations.EveryStepKeepsThePortsAndTheAppliedValues := by
  refine ⟨fun s t hk h => ?_, fun s t ht h => ?_, fun s t ha h => ?_⟩
  · simp only [portKNeverIsolated, bne_iff_ne] at hk ⊢
    exact ((step_lawful h).1 .k).2 rfl hk
  · rw [portTimersOk_iff] at ht ⊢
    exact fun p => ((step_lawful h).1 p).1 (ht p)
  · rw [appliedOk_iff] at ha ⊢
    exact fun x => (step_lawful h).2 x (ha x)

/-- Settles O12: no frame stands before a command's own, and every command is lawful. -/
theorem everyFrameSentIsWellMade : Obligations.EveryFrameSentIsWellMade :=
  fun _ _ _ h => (exec_lawful h).sent (fun _ hx => nomatch hx)

/-! ## The answer to a management request -/

/-- A local reply for a slot depends on the state by the attention value alone. -/
theorem slotReply_congr {s t : State} (h : attention t = attention s) (slot : Option Slot) (lc : LocalCode) :
    slotReply slot lc t = slotReply slot lc s := by
  unfold slotReply localFrame
  rw [h]

/-- RESTART SEGMENT on a port, whole (R18). -/
theorem restartPort_eq (p : Port) (s : State) : restartPort p s = { s with
    sent := s.sent ++ slotReply (s.ports.get p).slot .portRestarting s ++ [.down p (madeFrame 0 0x3F [] s)]
    seqCounter := s.seqCounter + 1
    ports := s.ports.set p { s.ports.get p with
      state := .restarting, slot := none, recovery := none, stopTimer := none
      restartHold := some (s.now + Config.restartHold)
      pending := if (s.ports.get p).state = .isolated ∧ (s.ports.get p).pending = some .isolationStop then none
        else (s.ports.get p).pending } } := by
  unfold restartPort
  rw [abandonSlot_eq]
  simp only [State.setPort, sendDown, advanceSeq, PerPort.get_set_same, PerPort.set_set]
  rfl

/-- A port's number that is none is OUT OF RANGE (R170). -/
theorem exec_restartSegment_none {n : Nat} (q : Req) (s : State) (h : portOf n = none) :
    exec (.restartSegment q n) s = .next (answered q 0x86 .outOfRange [] s s) := by
  simp only [exec, execRestartSegment, h]
  exact congrArg Host.Outcome.next (reply_begin q _ _ _ s s)

theorem exec_restartSegment_refused {n : Nat} {p : Port} (q : Req) (s : State) (h : portOf n = some p)
    (hr : restartRefused p s = true) : exec (.restartSegment q n) s = .next (answered q 0x86 .inBath [] s s) := by
  have hb : restartRefused p s.begin = true := hr
  simp only [exec, execRestartSegment, h, hb, if_true]
  exact congrArg Host.Outcome.next (reply_begin q _ _ _ s s)

theorem exec_restartSegment_done {n : Nat} {p : Port} (q : Req) (s : State) (h : portOf n = some p)
    (hr : restartRefused p s = false) : exec (.restartSegment q n) s
      = .next (restartPort p (answered q 0x86 .done [] s s)) := by
  have hb : restartRefused p s.begin = false := hr
  simp only [exec, execRestartSegment, h, hb]
  exact congrArg (Host.Outcome.next ∘ restartPort p) (reply_begin q _ _ _ s s)

theorem restartRefused_hoist (h : Hoist) (s : State) : restartRefused h.port s
    = ((s.contexts.get h).state.overKettle && (s.ports.get h.port).state != .isolated) := by
  simp only [restartRefused, Hoist.hoist_port]

/-- Settles O23: the refusals, and `restartPort_eq` after the DONE. -/
theorem restartSegmentRestartsThePort : Obligations.RestartSegmentRestartsThePort := by
  refine ⟨fun q n s hn => exec_restartSegment_none q s (portOf_none n hn), fun q h s hk hs => ?_, fun q p s hp => ?_⟩
  · refine exec_restartSegment_refused q s (portOf_num _) ?_
    rw [restartRefused_hoist, hk]
    simpa using hs
  · have hr : restartRefused p s = false := by
      cases hh : restartRefused p s with
      | false => rfl
      | true =>
        have hp' : ∃ h : Hoist, h.port = p := by
          cases p with
          | a => exact ⟨.h1, rfl⟩
          | b => exact ⟨.h2, rfl⟩
          | k => exact nomatch hh
        obtain ⟨h, rfl⟩ := hp'
        rw [restartRefused_hoist] at hh
        rcases hp h rfl with e | e <;> simp [e] at hh
    rw [exec_restartSegment_done q s (portOf_num p) hr, restartPort_eq]
    have ha : attention (answered q 0x86 .done [] s s) = attention s := rfl
    rw [slotReply_congr ha]
    rfl

theorem upFrames_reply (q : Req) (code : Byte) (st : Status) (data : List Byte) (s u : State)
    (hu : upFrames u.sent = []) : upFrames (reply q (ownByte s) code st data u).sent
      = [replyTo q code st data s (reply q (ownByte s) code st data u)] := by
  simp only [reply, sendUp_sent, upFrames_append, hu]
  rfl

/-- What `manage` answers with a request's own rule: one reply, with no data and nothing changed at a refusal. -/
theorem exec_manage_answer {i : Instr} {code : Byte} (hc : managementCode i = some code)
    (hr : ∀ q n, i ≠ .restartSegment q n) (s : State) :
    ∃ (st : Status) (data : List Byte) (t : State), exec i s = .next t
      ∧ upFrames t.sent = [replyTo (requester i) code st data s t] ∧ (st ≠ .done → data = [])
      ∧ (st ≠ .done → (∀ q x, i ≠ .tagLoad q x) → t = answered (requester i) code st [] s s) := by
  rw [exec_manage hc hr, manage_next]
  by_cases hb : (changesTables i && s.save.isSome) = true
  · rw [if_pos hb]
    exact ⟨.busy, [], _, rfl, rfl, fun _ => rfl, fun _ _ => rfl⟩
  · rw [if_neg hb]
    refine ⟨_, _, _, rfl, upFrames_reply _ _ _ _ _ _ (ruleOf_effect i s.begin).ups, ruleOf_data i s.begin,
      fun hd ht => ?_⟩
    have hs := ruleOf_sound i s.begin ht
    rw [hs.data hd, hs.kept hd, reply_begin]

/-- RESTART SEGMENT sends its reply before anything else, and a refusal of it changes nothing (R18, R166). -/
theorem exec_restartSegment_answer (q : Req) (n : Nat) (s : State) :
    ∃ (st : Status) (t : State), exec (.restartSegment q n) s = .next t
      ∧ (∃ rest, t.sent = .up (replyTo q 0x86 st [] s s) :: rest)
      ∧ (st ≠ .done → t = answered q 0x86 st [] s s) := by
  cases hp : portOf n with
  | none => exact ⟨_, _, exec_restartSegment_none q s hp, ⟨[], rfl⟩, fun _ => rfl⟩
  | some p =>
    cases hr : restartRefused p s with
    | true => exact ⟨_, _, exec_restartSegment_refused q s hp hr, ⟨[], rfl⟩, fun _ => rfl⟩
    | false =>
      refine ⟨.done, _, exec_restartSegment_done q s hp hr, ?_, fun h => absurd rfl h⟩
      rw [restartPort_eq]
      exact ⟨_, List.append_assoc _ _ _⟩

/-- Settles O8: `manage` answers every request but RESTART SEGMENT, whose reply is the first frame sent. -/
theorem everyManagementRequestIsAnsweredOnce : Obligations.EveryManagementRequestIsAnsweredOnce := by
  intro i code s hc
  by_cases hr : ∃ q n, i = .restartSegment q n
  · obtain ⟨q, n, rfl⟩ := hr
    obtain rfl : (0x86 : Byte) = code := Option.some.inj hc
    obtain ⟨st, t, he, hrest, hst⟩ := exec_restartSegment_answer q n s
    refine ⟨st, [], t, he, fun h => absurd rfl (h q n), fun q' n' h => ?_, fun _ => rfl, fun hd _ => hst hd⟩
    obtain ⟨rfl, _⟩ := Instr.restartSegment.inj h
    exact hrest
  · obtain ⟨st, data, t, he, hu, hd, hk⟩ := exec_manage_answer hc (fun q n h => hr ⟨q, n, h⟩) s
    exact ⟨st, data, t, he, fun _ => hu, fun q n h => absurd ⟨q, n, h⟩ hr, hd, hk⟩

end Sys2Proof.Machine
end

section
/-! Frames on port U: how their bytes are read, and what becomes of a request (R1, R4, R5, R11, R26). -/

namespace Sys2Proof.Machine

/-! ## Frames as bytes (R1, R182) -/

/-- A frame is damaged where its bytes fail one of the four tests of R1. -/
theorem parseFrame_eq_none_iff (bytes : List Byte) : parseFrame bytes = none ↔
    (bytes.length < 8 ∨ 60 < (fieldByte bytes 5).toNat ∨ bytes.length ≠ 6 + (fieldByte bytes 5).toNat + 2
      ∨ fieldNat bytes (6 + (fieldByte bytes 5).toNat) 2
        ≠ (crc16 (bytes.take (6 + (fieldByte bytes 5).toNat))).toNat) := by
  match bytes with
  | [] | [_] | [_, _] | [_, _, _] | [_, _, _, _] | [_, _, _, _, _] => simp [parseFrame]
  | dest :: src :: flags :: seq :: code :: len :: rest =>
    have hf : fieldByte (dest :: src :: flags :: seq :: code :: len :: rest) 5 = len := rfl
    have hn (hl : rest.length = len.toNat + 2) :
        fieldNat (dest :: src :: flags :: seq :: code :: len :: rest) (6 + len.toNat) 2
          = fromBE (rest.drop len.toNat) := by
      have hd : (dest :: src :: flags :: seq :: code :: len :: rest).drop (6 + len.toNat) = rest.drop len.toNat := by
        rw [Nat.add_comm 6]; rfl
      rw [fieldNat, hd, List.take_of_length_le (by rw [List.length_drop]; omega)]
    have hg {c : Prop} [Decidable c] {f : Frame} : (if c then some f else none) = none ↔ ¬ c := by
      rw [ite_eq_right_iff]
      exact imp_congr_right fun _ => iff_of_false nofun id
    have hmax : Config.maxPayload = 60 := rfl
    simp only [parseFrame, hf, List.length_cons]
    rw [hg, hmax]
    by_cases hl : rest.length = len.toNat + 2
    · rw [hn hl]
      constructor
      · intro h
        by_cases hm : len.toNat ≤ 60
        · exact .inr (.inr (.inr (fun hc => h ⟨hm, hl, hc⟩)))
        · exact .inr (.inl (by omega))
      · rintro (h | h | h | h) ⟨hm, _, hc⟩
        · omega
        · omega
        · omega
        · exact h hc
    · exact ⟨fun _ => .inr (.inr (.inl (by omega))), fun _ ⟨_, h, _⟩ => hl h⟩

theorem length_frameBody (f : Frame) : (frameBody f).length = 6 + f.payload.length := by
  simp [frameBody]; omega

/-- The four fields of the header's byte 2 do not meet (12.1). -/
theorem flagByte_bits (a : Fin 8) (reply origin limited : Bool) :
    let b : Byte := BitVec.ofNat 8 ((if reply then 128 else 0) + (if origin then 64 else 0)
      + (if limited then 32 else 0) + a.val % 8)
    b.getLsbD 7 = reply ∧ b.getLsbD 6 = origin ∧ b.getLsbD 5 = limited ∧ b.toNat % 8 = a.val := by
  decide +revert

/-- Kind, ORIGIN, LIMITED and the attention value are read back from the header's byte 2 (12.1). -/
theorem flagByte_read (f : Frame) (h : f.attention < 8) :
    (flagByte f).getLsbD 7 = f.reply ∧ (flagByte f).getLsbD 6 = f.origin ∧ (flagByte f).getLsbD 5 = f.limited
      ∧ (flagByte f).toNat % 8 = f.attention :=
  flagByte_bits ⟨f.attention, h⟩ f.reply f.origin f.limited

/-- The bytes of a frame are read back as that frame (R1, R182). -/
theorem parseFrame_encodeFrame (f : Frame) (hp : f.payload.length ≤ 60) (ha : f.attention < 8) :
    parseFrame (encodeFrame f) = some f := by
  obtain ⟨h7, h6, h5, hm⟩ := flagByte_read f ha
  have hlen : (BitVec.ofNat 8 f.payload.length).toNat = f.payload.length := by
    rw [BitVec.toNat_ofNat]; omega
  have hcheck : fromBE (beBytes 2 (crc16 (frameBody f)).toNat) = (crc16 (frameBody f)).toNat :=
    fromBE_beBytes_fits 2 _ (by simpa [fitsNat] using (crc16 (frameBody f)).isLt)
  have htake : (encodeFrame f).take (6 + f.payload.length) = frameBody f := by
    rw [encodeFrame, ← length_frameBody, List.take_left]
  have hbytes : encodeFrame f = f.dest :: f.src :: flagByte f :: f.seq :: f.code :: BitVec.ofNat 8 f.payload.length
      :: (f.payload ++ beBytes 2 (crc16 (frameBody f)).toNat) := by
    simp [encodeFrame, frameBody]
  rw [hbytes] at htake ⊢
  simp only [parseFrame, hlen, htake, List.drop_left, List.take_left, hcheck, Config.maxPayload, h7, h6, h5, hm]
  rw [if_pos ⟨hp, by simp, trivial⟩]

theorem exec_upstreamFrame {bytes : List Byte} {f : Frame} (s : State) (h : parseFrame bytes = some f) :
    exec (.upstreamFrame bytes) s = upstream f s := by
  simp only [exec, execUpstreamFrame, h]

/-- Settles O9. -/
theorem framesAreReadAsTheyAreWritten : Obligations.FramesAreReadAsTheyAreWritten := by
  refine ⟨parseFrame_eq_none_iff, fun bytes s h => ?_, fun bytes f s h hr => ?_, parseFrame_encodeFrame⟩
  · simp only [exec, execUpstreamFrame, h]
    rfl
  · rw [exec_upstreamFrame s h, upstream, if_pos hr]
    rfl

/-! ## Requests to the own address (R164, R167) -/

/-- Settles O11: the decoder accepts what the form check admits, and an accepted request runs as its own command. -/
theorem managementFramesRunTheirRequest : Obligations.ManagementFramesRunTheirRequest := by
  refine ⟨fun bytes f s h hr hd => ?_, fun q code p s h => managementRequest_bad q s h, decodeManagement_isSome⟩
  have hm : exec (.upstreamFrame bytes) s = managementRequest ⟨f.src, f.seq⟩ f.code f.payload s := by
    rw [exec_upstreamFrame s h, upstream, if_neg (by simp [hr]), if_pos hd]
  rw [hm]
  exact ⟨fun i hi => managementRequest_some s hi, managementRequest_bad _ s⟩

/-! ## Requests bound for a port (R4, R11) -/

/-- A request that is neither to the own address nor a broadcast is routed. -/
theorem exec_routed {bytes : List Byte} {f : Frame} {s : State} (h : parseFrame bytes = some f)
    (hr : f.reply = false) (ho : f.dest.toNat ≠ s.tables.ownAddress) (hd : f.dest ≠ 0) :
    exec (.upstreamFrame bytes) s = .next (routeRequest f s.begin) := by
  rw [exec_upstreamFrame s h, upstream, if_neg (by simp [hr]), if_neg ho, if_neg hd]

theorem serves_iff (w : Window) (a : Nat) : Window.serves w a = true ↔ w.base ≤ a ∧ a ≤ w.limit := by
  simp [Window.serves]

/-- An address outside every window has no port. -/
theorem routeOf_none {a : Nat} {s : State}
    (h : ∀ p, ¬ ((s.tables.ports.get p).window.base ≤ a ∧ a ≤ (s.tables.ports.get p).window.limit)) :
    routeOf a s = none := by
  have hs : ∀ p, ¬ Window.serves (s.tables.ports.get p).window a = true := fun p => by rw [serves_iff]; exact h p
  exact (if_neg (hs .a)).trans ((if_neg (hs .b)).trans (if_neg (hs .k)))

/-- An address in the window of one port alone has that port. -/
theorem routeOf_only {p : Port} {a : Nat} {s : State} (h : onlyWindowOf p a s) : routeOf a s = some p := by
  have hs : ∀ x, Window.serves (s.tables.ports.get x).window a = true ↔ x = p := fun x => by rw [serves_iff]; exact h x
  have ha := hs .a
  have hb := hs .b
  have hk := hs .k
  simp only [PerPort.get_a, PerPort.get_b, PerPort.get_k] at ha hb hk
  unfold routeOf
  cases p <;> simp [ha, hb, hk]

/-- A local reply to a request: one frame more, and nothing changed. -/
theorem answerRequest_begin (f : Frame) (lc : LocalCode) (s : State) : answerRequest f lc s.begin
    = { s with sent := [.up (localFrame f.src f.dest f.seq f.code lc s)] } := rfl

/-- The port states in which a request goes on to the slot and the traps (R4). -/
theorem boundFor_free {p : Port} {f : Frame} {s : State}
    (hs : (s.ports.get p).state = .opened ∨ (s.ports.get p).state = .faulted) (hn : (s.ports.get p).slot = none) :
    boundFor p f s = match trapMatch (some p) f s with
      | some (i, .block) => answerRequest f .trapped (countHit i s)
      | some (i, .note) => forwardRequest p f (countHit i s)
      | none => forwardRequest p f s := by
  rcases hs with hs | hs <;> simp only [boundFor, hs, hn] <;> rfl

theorem boundFor_busy {p : Port} {f : Frame} {s : State}
    (hs : (s.ports.get p).state = .opened ∨ (s.ports.get p).state = .faulted)
    (hn : (s.ports.get p).slot.isSome = true) : boundFor p f s = answerRequest f .portBusy s := by
  obtain ⟨sl, hsl⟩ := Option.isSome_iff_exists.1 hn
  rcases hs with hs | hs <;> simp only [boundFor, hs, hsl]

/-- The traps read neither the frames sent nor the queue. -/
theorem trapMatch_begin (port : Option Port) (f : Frame) (s : State) :
    trapMatch port f s.begin = trapMatch port f s := by
  have first : ∀ (es : List TrapEntry) (i : Nat), firstTrap port f s.begin es i = firstTrap port f s es i := by
    intro es
    induction es with
    | nil => exact fun _ => rfl
    | cons e es ih => exact fun i => by rw [firstTrap, firstTrap, ih]; rfl
  exact first _ _

/-- Settles O13: the route of a request, and then its port's state, slot and trap entry. -/
theorem requestsAnsweredLocally : Obligations.RequestsAnsweredLocally := by
  intro bytes f s h hr ho hd
  rw [exec_routed h hr ho hd]
  refine ⟨fun hw => ?_, fun p hw => ?_⟩
  · rw [routeRequest, routeOf_none (s := s.begin) hw]
    rfl
  · have route : routeRequest f s.begin = boundFor p f s.begin := by rw [routeRequest, routeOf_only (s := s.begin) hw]
    rw [route]
    refine ⟨fun hs => ?_, fun hs => ?_, fun hs => ⟨fun hb => ?_, fun i hn ht => ?_⟩⟩
    · have hs' : (s.begin.ports.get p).state = .isolated := hs
      simp only [boundFor, hs']
      rfl
    · have hs' : (s.begin.ports.get p).state = .restarting := hs
      simp only [boundFor, hs']
      rfl
    · rw [boundFor_busy (s := s.begin) hs hb]
      rfl
    · rw [boundFor_free (s := s.begin) hs hn, trapMatch_begin, ht]
      rfl

/-- A request that the traps let pass goes on from the state that they leave (R26). -/
theorem boundFor_passes {p : Port} {f : Frame} {s s1 : State}
    (hs : (s.ports.get p).state = .opened ∨ (s.ports.get p).state = .faulted) (hn : (s.ports.get p).slot = none)
    (ht : passesTraps (some p) f s s1) : boundFor p f s.begin = forwardRequest p f s1.begin := by
  rw [boundFor_free (s := s.begin) hs hn, trapMatch_begin]
  rcases ht with ⟨ht, rfl⟩ | ⟨i, ht, rfl⟩
  · rw [ht]
  · rw [ht]
    rfl

/-- The traps leave everything but hit counts and notices. -/
theorem passesTraps_frame {port : Option Port} {f : Frame} {s s1 : State} (ht : passesTraps port f s s1) :
    s1.tables = s.tables ∧ s1.ports = s.ports ∧ s1.now = s.now := by
  rcases ht with ⟨_, rfl⟩ | ⟨i, _, rfl⟩ <;> exact ⟨rfl, rfl, rfl⟩

/-- A request that is no MOTION to its port's hoist station goes down as it came, into the slot (R4, R6, R21). -/
theorem forwardRequest_plain {p : Port} {f : Frame} {s : State} (h : limitedHoist p f s = none) :
    forwardRequest p f s = { s with
      sent := s.sent ++ [.down p { f with limited := false, attention := 0 }]
      ports := s.ports.set p { s.ports.get p with
        slot := filledSlot p (.forwarded f.src false) f.dest f.seq f.code s } } := by
  rw [forwardRequest, h]
  rfl

theorem port_of_hoist {p : Port} {x : Hoist} (h : Port.hoist p = some x) : x.port = p := by
  cases p with
  | a => cases h; rfl
  | b => cases h; rfl
  | k => cases h

theorem limitedHoist_none {p : Port} {f : Frame} {s : State}
    (h : ∀ x : Hoist, x.port = p → f.code = 0x31 → (s.tables.hoists.get x).station ≠ some f.dest.toNat) :
    limitedHoist p f s = none := by
  unfold limitedHoist
  cases hp : Port.hoist p with
  | none => rfl
  | some x =>
    have hx : x.port = p := port_of_hoist hp
    refine if_neg (fun ⟨hc, hs⟩ => h x hx hc ?_)
    cases ha : (s.tables.hoists.get x).station with
    | none => rw [ha] at hs; exact nomatch hs
    | some a =>
      rw [ha] at hs
      simp only [isStation, beq_iff_eq] at hs
      rw [hs]

/-- Settles O14. -/
theorem requestsAreForwarded : Obligations.RequestsAreForwarded := by
  intro bytes f s s1 p h hr ho hd hw hs hn ht hm
  obtain ⟨htab, hports, hnow⟩ := passesTraps_frame ht
  rw [exec_routed h hr ho hd, routeRequest, routeOf_only (s := s.begin) hw]
  simp only
  rw [boundFor_passes hs hn ht, forwardRequest_plain (limitedHoist_none fun x hx hc => by
    rw [State.begin_tables, htab]; exact hm x hx hc)]
  simp only [State.begin, hports, filledSlot, hnow, htab]
  rfl

/-! ## Broadcasts (R5, R26) -/

theorem broadcastOn_eq (p : Port) (f : Frame) (s : State) : broadcastOn p f s
    = (((s.ports.get p).state == .opened || (s.ports.get p).state == .faulted) && (p == .k || f.code != 0x31)) := by
  unfold broadcastOn
  cases (s.ports.get p).state <;> rfl

/-- A broadcast on one port adds its frame or nothing. -/
theorem broadcastTo_eq (p : Port) (f : Frame) (s : State) : broadcastTo p f s = { s with
    sent := s.sent ++ ([p].filter (fun p => broadcastOn p f s)).map
      (fun p => .down p { f with limited := false, attention := 0 }) } := by
  unfold broadcastTo
  cases h : broadcastOn p f s <;> simp [h, sendDown, forwardFrame]

theorem sendBroadcast_eq (f : Frame) (s : State) : sendBroadcast f s = { s with
    sent := s.sent ++ ([Port.a, Port.b, Port.k].filter (fun p => broadcastOn p f s)).map
      (fun p => .down p { f with limited := false, attention := 0 }) } := by
  have same : ∀ (p : Port) (l : List Sent), broadcastOn p f { s with sent := l } = broadcastOn p f s :=
    fun _ _ => rfl
  unfold sendBroadcast
  rw [broadcastTo_eq .a, broadcastTo_eq .b, broadcastTo_eq .k]
  simp only [same, List.append_assoc, ← List.map_append, ← List.filter_append, List.cons_append, List.nil_append]

theorem exec_broadcast {bytes : List Byte} {f : Frame} {s : State} (h : parseFrame bytes = some f)
    (hr : f.reply = false) (hd : f.dest = 0) (ho : s.tables.ownAddress ≠ 0) :
    exec (.upstreamFrame bytes) s = .next (broadcast f s.begin) := by
  have hn : ¬ f.dest.toNat = s.tables.ownAddress := by rw [hd]; exact fun e => ho e.symm
  rw [exec_upstreamFrame s h, upstream, if_neg (by simp [hr]), if_neg hn, if_pos hd]

/-- Settles O17: the trap table once, and then `sendBroadcast_eq` on the state that it leaves. -/
theorem broadcastsGoToOpenPorts : Obligations.BroadcastsGoToOpenPorts := by
  intro bytes f s h hr hd ho
  rw [exec_broadcast h hr hd ho, broadcast, trapMatch_begin]
  refine ⟨fun i ht => by rw [ht]; rfl, fun s1 ht => ?_⟩
  have ports := (passesTraps_frame ht).2.1
  have sends : sendBroadcast f s1.begin = { s1 with
      sent := ([Port.a, Port.b, Port.k].filter (fun p => broadcastOn p f s)).map
        (fun p => .down p { f with limited := false, attention := 0 }) } := by
    have on : ∀ p, broadcastOn p f s1.begin = broadcastOn p f s := fun p => by
      simp only [broadcastOn, State.begin_ports, ports]
    rw [sendBroadcast_eq]
    simp only [on]
    rfl
  simp only [broadcastOn_eq] at sends
  rcases ht with ⟨ht, rfl⟩ | ⟨i, ht, rfl⟩ <;> rw [ht] <;> exact congrArg _ sends

end Sys2Proof.Machine
end

section
/-! The downstream ports: the requests that the part makes itself, the replies that match a slot, the port errors
without strict stop, and the port and command timers (R6 to R13, R17, R19, R20, R41, R42). -/

namespace Sys2Proof.Machine

/-! ## A pending generated request (R17, R20, R42, R120) -/

theorem isStation_iff (d : Byte) (station : Option Nat) : isStation d station = true ↔ station = some d.toNat := by
  cases station with
  | none => simp [isStation]
  | some a => rw [isStation, beq_iff_eq, Option.some_inj, eq_comm]

theorem due_iff (timer : Option Nat) (s : State) : due timer s = true ↔ reachedBy timer s.now := by
  cases timer <;> simp [due, reachedBy]

/-- A pending request waits for the slot and for the port's state. -/
theorem sendPending_waits {p : Port} {s : State} (h : (s.ports.get p).slot.isSome = true ∨ (s.ports.get p).pending = none
    ∨ (s.ports.get p).state = .restarting
    ∨ ((s.ports.get p).state = .isolated ∧ (s.ports.get p).pending ≠ some .isolationStop)) : sendPending p s = s := by
  unfold sendPending
  split
  · next g hs hp =>
    refine if_neg ?_
    rw [hs, hp] at h
    rcases h with h | h | h | ⟨h, hg⟩
    · cases h
    · cases h
    · rw [h]
      exact Bool.false_ne_true
    · rw [h]
      exact fun hm => hg (congrArg some (beq_iff_eq.1 hm))
  · rfl

/-- A pending request that may be sent is sent, and is then no longer pending. -/
theorem sendPending_sends {p : Port} {g : GenRequest} {s : State} (hs : (s.ports.get p).slot = none)
    (hp : (s.ports.get p).pending = some g) (hm : maySend g (s.ports.get p).state = true) :
    sendPending p s = sendGenerated p g (s.setPort p { s.ports.get p with pending := none }) := by
  simp only [sendPending, hs, hp, hm, if_true]

theorem maySend_working {g : GenRequest} {st : PortState} (h : st = .opened ∨ st = .faulted) : maySend g st = true := by
  rcases h with rfl | rfl <;> rfl

theorem maySend_isolationStop {st : PortState} (h : st ≠ .restarting) : maySend .isolationStop st = true := by
  cases st with
  | restarting => exact absurd rfl h
  | _ => rfl

theorem sendGenerated_isolationStop (h : Hoist) (s : State) :
    sendGenerated h.port .isolationStop s = sendStop h .isolationStop s := by
  cases h <;> rfl

/-- The command-timeout STOP sets its notice as it is sent (R42). -/
theorem sendGenerated_commandStop {h : Hoist} {a : Nat} {s : State} (ha : (s.tables.hoists.get h).station = some a) :
    sendGenerated h.port .commandStop s = setNotice .commandTimeoutStop (sendStop h .timeoutStop s) := by
  have hs : (s.tables.hoists.get h).station.isSome = true := by rw [ha]; rfl
  simp only [sendGenerated, Hoist.hoist_port, hs, if_true]

/-- Settles O19: a pending request waits (`sendPending_waits`) or is sent (`sendPending_sends`), each kind by its rule. -/
theorem pendingRequestsTakeTheFreeSlot : Obligations.PendingRequestsTakeTheFreeSlot := by
  refine ⟨fun p s => sendPending_waits, fun h a s hs hp hu ha => ?_, fun h a s hs hp hu ha => ?_,
    fun a s hs hp hu ha => ?_⟩
  · rw [sendPending_sends hs hp (maySend_working hu), sendGenerated_commandStop (by exact ha), sendStop_some h _ a _ (by exact ha)]
    simp only [State.setPort, setNotice, PerPort.set_set, PerPort.get_set_same]
    rfl
  · rw [sendPending_sends hs hp (maySend_isolationStop hu), sendGenerated_isolationStop, sendStop_some h _ a _ (by exact ha)]
    simp only [State.setPort, PerPort.set_set, PerPort.get_set_same]
    rfl
  · rw [sendPending_sends (p := .k) hs hp (maySend_working hu)]
    exact sendPoll_some a _ ha

/-! ## The commands of the downstream ports -/

theorem exec_downstreamFrame (p : Port) (bytes : List Byte) (s : State) :
    exec (.downstreamFrame p bytes) s = .next (receiveDown p bytes s.begin) := rfl

theorem exec_replyTimerExpiry (p : Port) (s : State) :
    exec (.replyTimerExpiry p) s = .next (replyTimeout p s.begin) := rfl

theorem exec_isolationStopTimerExpiry (h : Hoist) (s : State) :
    exec (.isolationStopTimerExpiry h) s = .next (stopTimerExpired h s.begin) := rfl

theorem exec_commandTimerExpiry (h : Hoist) (s : State) :
    exec (.commandTimerExpiry h) s = .next (commandTimerExpired h s.begin) := rfl

/-! ## A reply that matches the slot (R7) -/

theorem receiveDown_undamaged {p : Port} {bytes : List Byte} {f : Frame} {s : State} (h : parseFrame bytes = some f)
    (hu : (s.ports.get p).state ≠ .restarting) : receiveDown p bytes s = undamagedFrame p f s := by
  cases hs : (s.ports.get p).state with
  | restarting => exact absurd hs hu
  | _ => simp only [receiveDown, hs, h]

theorem matches_iff (sl : Slot) (f : Frame) :
    sl.matches f = true ↔ f.reply = true ∧ f.src = sl.dest ∧ f.seq = sl.seq := by
  simp [Slot.matches, and_assoc]

theorem undamagedFrame_matched {p : Port} {f : Frame} {sl : Slot} {s : State} (hs : (s.ports.get p).slot = some sl)
    (hm : f.reply = true ∧ f.src = sl.dest ∧ f.seq = sl.seq) : undamagedFrame p f s = matchedReply p sl f s := by
  simp only [undamagedFrame, hs, (matches_iff sl f).2 hm, if_true]

theorem undamagedFrame_stray {p : Port} {f : Frame} {s : State}
    (hm : ∀ sl, (s.ports.get p).slot = some sl → ¬ (f.reply = true ∧ f.src = sl.dest ∧ f.seq = sl.seq)) :
    undamagedFrame p f s = portError p .stray s := by
  unfold undamagedFrame
  split
  · next sl hs => exact if_neg (fun h => hm sl hs ((matches_iff sl f).1 h))
  · rfl

/-- The hoist station's reply with a telemetry block is a sample (R50). -/
theorem readReply_telemetry {h : Hoist} {f : Frame} {t : Telemetry} {s : State} (code : Byte)
    (ha : (s.tables.hoists.get h).station = some f.src.toNat) (ht : telemetryOf f.payload = some t) :
    readReply h.port code f s = takeSample h t s := by
  simp only [readReply, Hoist.hoist_port, (isStation_iff _ _).2 ha, ht, if_true]

/-- The bath station's answer to a BATH READ is a reading (R122). -/
theorem readReply_bath {f : Frame} {r : BathReading} {s : State} (ha : s.tables.bath.station = some f.src.toNat)
    (hr : bathReadingOf f.payload = some r) : readReply .k 0x50 f s = takeBathSample r s := by
  simp only [readReply, Port.hoist, (isStation_iff _ _).2 ha, hr]
  rfl

/-- Any other reply is read by nobody. -/
theorem readReply_none {p : Port} {code : Byte} {f : Frame} {s : State}
    (hh : ∀ h : Hoist, h.port = p → (s.tables.hoists.get h).station ≠ some f.src.toNat ∨ telemetryOf f.payload = none)
    (hk : p = .k → s.tables.bath.station ≠ some f.src.toNat ∨ code ≠ 0x50 ∨ bathReadingOf f.payload = none) :
    readReply p code f s = s := by
  unfold readReply
  split
  · next h hp =>
    split
    · next ha =>
      have ht := (hh h (port_of_hoist hp)).resolve_left (fun hn => hn ((isStation_iff _ _).1 ha))
      rw [ht]
    · rfl
  · next hp =>
    have hp' : p = .k := by
      cases p with
      | k => rfl
      | _ => cases hp
    split
    · next ha =>
      rw [Bool.and_eq_true, isStation_iff] at ha
      have hr := ((hk hp').resolve_left (fun hn => hn ha.1)).resolve_left (fun hn => hn (beq_iff_eq.1 ha.2))
      rw [hr]
    · rfl

theorem GeneratedOnly.tables {p : Port} {s t : State} (h : GeneratedOnly p s t) : t.tables = s.tables := by
  obtain ⟨_, _, _, _, _, _, _, rfl⟩ := h
  rfl

/-- Settles O18: the reply is read in the state that freeing the slot leaves, and then goes up (log 9). -/
theorem matchedRepliesAreProcessed : Obligations.MatchedRepliesAreProcessed := by
  intro p bytes f sl s s0 up hf hu hs hr hd hq h0 hup
  have tables : s0.tables = s.tables := by rw [h0]; exact (sendPending_generatedOnly p _).tables
  have goesUp (u : State) : replyUp sl.origin f u = up u := by
    rw [hup u]
    cases sl.origin <;> rfl
  have runs : exec (.downstreamFrame p bytes) s = .next (up (readReply p sl.code f s0)) := by
    rw [exec_downstreamFrame,
      receiveDown_undamaged hf (by exact hu), undamagedFrame_matched (sl := sl) (by exact hs) ⟨hr, hd, hq⟩, ← goesUp, h0]
    rfl
  rw [runs]
  refine ⟨fun h t hp ha ht => ?_, fun r hp ha hc hb => ?_, fun hh hk => ?_⟩
  · subst hp
    rw [readReply_telemetry _ (by rw [tables]; exact ha) ht]
  · subst hp
    rw [hc, readReply_bath (by rw [tables]; exact ha) hb]
  · rw [readReply_none (by rw [tables]; exact hh) (by rw [tables]; exact hk)]

/-! ## Port errors without strict stop (R8 to R10, R12) -/

/-- What a port error makes of a port but for the kind's flag, where it does not isolate it: FAULTED with the recovery
timer loaded, or, when it is ISOLATED already, nothing (R12). -/
def ErrorLeaves (p : Port) (s : State) (u u' : PortUnit) : Prop :=
  (u.state = .opened ∨ u.state = .faulted)
      ∧ (∀ h : Hoist, h.port = p → (s.tables.ports.get p).strictStop = false
          ∨ (s.contexts.get h).state.overKettle = false)
      ∧ u' = { u with state := .faulted, recovery := some (s.now + (s.tables.ports.get p).recoveryTime) }
    ∨ u.state = .isolated ∧ u' = u

theorem strictStops_false {p : Port} {s : State} (h : ∀ h : Hoist, h.port = p →
    (s.tables.ports.get p).strictStop = false ∨ (s.contexts.get h).state.overKettle = false) :
    strictStops p s = false := by
  unfold strictStops
  split
  · next x hx => rcases h x (port_of_hoist hx) with hs | hs <;> simp [hs]
  · rfl

theorem mark_faulted (u : PortUnit) (e : PortError) (r : Option Nat) :
    { u.mark e with state := .faulted, recovery := r } = PortUnit.mark { u with state := .faulted, recovery := r } e := by
  cases e <;> rfl

/-- A port error that does not isolate the port: the flag, the notice and the port (R12). -/
theorem portError_eq {p : Port} {s : State} {u' : PortUnit} (e : PortError)
    (h : ErrorLeaves p s (s.ports.get p) u') : portError p e s = { s with
      ports := s.ports.set p (u'.mark e), notices := { s.notices with portFault := true } } := by
  rcases h with ⟨hu, hs, rfl⟩ | ⟨hu, rfl⟩
  · rw [portError_faults hu (strictStops_false hs), ← mark_faulted]
    simp only [countError, setNotice, State.setPort, PerPort.get_set_same, PerPort.set_set]
    rfl
  · rw [portError_isolated hu]
    rfl

/-- The slot's request answered and the slot freed, before the error is counted (R8, R10, log 9). -/
theorem freeWithError_eq {p : Port} {s : State} {u' : PortUnit} (lc : LocalCode) (e : PortError)
    (h : ErrorLeaves p s (s.ports.get p) u') : freeWithError p lc e s = sendPending p { s with
      sent := s.sent ++ slotReply (s.ports.get p).slot lc s
      ports := s.ports.set p (PortUnit.mark { u' with slot := none } e)
      notices := { s.notices with portFault := true } } := by
  have h' : ErrorLeaves p (abandonSlot p lc s) ((abandonSlot p lc s).ports.get p) { u' with slot := none } := by
    rw [abandonSlot_eq]
    simp only [PerPort.get_set_same]
    rcases h with ⟨hu, hs, rfl⟩ | ⟨hu, rfl⟩
    · exact .inl ⟨hu, hs, rfl⟩
    · exact .inr ⟨hu, rfl⟩
  rw [freeWithError, portError_eq e h', abandonSlot_eq]
  simp only [PerPort.set_set]

theorem receiveDown_damaged {p : Port} {bytes : List Byte} {s : State} (h : parseFrame bytes = none)
    (hu : (s.ports.get p).state ≠ .restarting) :
    receiveDown p bytes s = freeWithError p .replyDamaged .damaged s := by
  cases hs : (s.ports.get p).state with
  | restarting => exact absurd hs hu
  | _ => simp only [receiveDown, hs, h]

theorem receiveDown_restarting {p : Port} {s : State} (bytes : List Byte) (hu : (s.ports.get p).state = .restarting) :
    receiveDown p bytes s = s := by
  simp only [receiveDown, hu]

theorem replyTimeout_due {p : Port} {s : State} (h : reachedBy ((s.ports.get p).slot.map Slot.deadline) s.now) :
    replyTimeout p s = freeWithError p .noReply .timeout s := by
  obtain ⟨d, hd, hn⟩ := h
  obtain ⟨sl, hs, rfl⟩ := Option.map_eq_some_iff.1 hd
  simp only [replyTimeout, hs]
  exact if_pos ((due_iff _ s).2 ⟨_, rfl, hn⟩)

theorem replyTimeout_notDue {p : Port} {s : State} (h : ¬ reachedBy ((s.ports.get p).slot.map Slot.deadline) s.now) :
    replyTimeout p s = s := by
  unfold replyTimeout
  split
  · next sl hs =>
    rw [hs] at h
    exact if_neg (fun hd => h ((due_iff _ s).1 hd))
  · rfl

theorem ErrorLeaves.not_restarting {p : Port} {s : State} {u u' : PortUnit} (h : ErrorLeaves p s u u') :
    u.state ≠ .restarting := by
  rcases h with ⟨hu | hu, _⟩ | ⟨hu, _⟩ <;> rw [hu] <;> exact nofun

/-- Settles O20: `portError_eq` for a stray frame, and `freeWithError_eq` where the slot is freed. -/
theorem portErrorsFaultThePort : Obligations.PortErrorsFaultThePort := by
  refine ⟨fun p s u u' hu h => ?_, fun p bytes s hu => ?_, fun p s h => ?_⟩
  · subst hu
    have leaves : ErrorLeaves p s.begin (s.begin.ports.get p) u' := h
    have working := leaves.not_restarting
    refine ⟨fun bytes hf => ?_, fun bytes f hf hm => ?_, fun hd => ?_⟩
    · rw [exec_downstreamFrame,
        receiveDown_damaged hf working, freeWithError_eq _ _ leaves]
      rfl
    · rw [exec_downstreamFrame,
        receiveDown_undamaged hf working, undamagedFrame_stray (by exact hm), portError_eq _ leaves]
      rfl
    · rw [exec_replyTimerExpiry,
        replyTimeout_due (by exact hd), freeWithError_eq _ _ leaves]
      rfl
  · exact congrArg Host.Outcome.next (receiveDown_restarting (s := s.begin) bytes hu)
  · exact congrArg Host.Outcome.next (replyTimeout_notDue (s := s.begin) h)

/-! ## The port timers and the command timer (R13, R17, R19, R41, R42) -/

/-- A generated request that finds the slot free, in a state that allows it, is sent at once (R20). -/
theorem generatedDue_sends {p : Port} {g : GenRequest} {s : State} (hs : (s.ports.get p).slot = none)
    (hm : maySend g (s.ports.get p).state = true) : generatedDue p g s = sendGenerated p g s := by
  simp [generatedDue, hs, hm]

/-- Else it becomes the port's pending request. -/
theorem generatedDue_waits {p : Port} {g : GenRequest} {s : State}
    (h : (s.ports.get p).slot.isSome = true ∨ (s.ports.get p).state = .restarting) :
    generatedDue p g s = s.setPort p { s.ports.get p with pending := some g } := by
  refine if_neg (fun hc => ?_)
  rw [Bool.and_eq_true] at hc
  rcases h with h | h
  · rw [Option.isSome_iff_ne_none] at h
    exact h (Option.isNone_iff_eq_none.1 hc.1)
  · rw [h] at hc
    exact nomatch hc.2

theorem recoveryExpired_due {p : Port} {s : State} (hu : (s.ports.get p).state = .faulted)
    (hd : reachedBy (s.ports.get p).recovery s.now) :
    recoveryExpired p s = s.setPort p { s.ports.get p with state := .opened, recovery := none } := by
  simp [recoveryExpired, hu, (due_iff _ s).2 hd]

theorem restartHoldExpired_due {p : Port} {s : State} (hu : (s.ports.get p).state = .restarting)
    (hd : reachedBy (s.ports.get p).restartHold s.now) :
    restartHoldExpired p s = sendPending p (s.setPort p { s.ports.get p with
      state := .opened, restartHold := none, recovery := none, errDamaged := false, errStray := false,
      errTimeout := false }) := by
  simp [restartHoldExpired, hu, (due_iff _ s).2 hd]

theorem stopTimerExpired_due {h : Hoist} {s : State} (hu : (s.ports.get h.port).state = .isolated)
    (hd : reachedBy (s.ports.get h.port).stopTimer s.now) :
    stopTimerExpired h s = generatedDue h.port .isolationStop
      (s.setPort h.port { s.ports.get h.port with stopTimer := some (s.now + 100) }) := by
  simp [stopTimerExpired, hu, (due_iff _ s).2 hd, Config.isolationInterval]

/-- The command timer stops, and nothing falls due for a hoist at rest or without a station (R29, R41). -/
theorem commandTimerExpired_still {h : Hoist} {s : State} (hd : reachedBy (s.motion.get h).commandTimer s.now)
    (hs : ((s.motion.get h).applied.hoistSpeed = 0 ∧ (s.motion.get h).applied.travelSpeed = 0)
      ∨ (s.tables.hoists.get h).station = none) :
    commandTimerExpired h s = s.setMotion h { s.motion.get h with commandTimer := none } := by
  simp only [commandTimerExpired, (due_iff _ s).2 hd, if_true]
  exact if_pos hs

theorem commandTimerExpired_moving {h : Hoist} {s : State} (hd : reachedBy (s.motion.get h).commandTimer s.now)
    (hs : ¬ (((s.motion.get h).applied.hoistSpeed = 0 ∧ (s.motion.get h).applied.travelSpeed = 0)
      ∨ (s.tables.hoists.get h).station = none)) :
    commandTimerExpired h s
      = generatedDue h.port .commandStop (s.setMotion h { s.motion.get h with commandTimer := none }) := by
  simp only [commandTimerExpired, (due_iff _ s).2 hd, if_true]
  exact if_neg hs

/-- Settles O22: each expiry by its equation, and the stops by `sendStop_some`. -/
theorem portAndCommandTimersExpire : Obligations.PortAndCommandTimersExpire := by
  refine ⟨fun p s hu hd => ?_, fun p s hu hd => ?_, fun h s hu hd => ?_, fun h s hd => ?_⟩
  · exact congrArg Host.Outcome.next (recoveryExpired_due (s := s.begin) hu hd)
  · exact congrArg Host.Outcome.next (restartHoldExpired_due (s := s.begin) hu hd)
  · rw [exec_isolationStopTimerExpiry,
      stopTimerExpired_due (s := s.begin) hu hd]
    refine ⟨fun hs => ?_, fun a hs ha => ?_⟩
    · rw [generatedDue_waits (.inl (by simpa using hs))]
      simp only [State.setPort, PerPort.get_set_same, PerPort.set_set]
      rfl
    · rw [generatedDue_sends (by simpa using hs) (by simp [hu, maySend]), sendGenerated_isolationStop,
        sendStop_some h _ a _ (by exact ha)]
      simp only [State.setPort, PerPort.get_set_same, PerPort.set_set]
      rfl
  · refine ⟨fun hs => congrArg Host.Outcome.next (commandTimerExpired_still (s := s.begin) hd hs), fun a hm ha => ?_⟩
    have moving : ¬ (((s.motion.get h).applied.hoistSpeed = 0 ∧ (s.motion.get h).applied.travelSpeed = 0)
        ∨ (s.tables.hoists.get h).station = none) := by
      rw [ha]
      rintro (⟨hh, ht⟩ | hn)
      · exact hm.elim (fun hm => hm hh) (fun hm => hm ht)
      · cases hn
    rw [exec_commandTimerExpiry,
      commandTimerExpired_moving (s := s.begin) hd moving]
    refine ⟨fun hs hu => ?_, fun hs => ?_⟩
    · rw [generatedDue_sends (by exact hs) (maySend_working (by exact hu)), sendGenerated_commandStop (by exact ha),
        sendStop_some h _ a _ (by exact ha)]
      simp only [State.setMotion, PerHoist.get_set_same, PerHoist.set_set]
      rfl
    · rw [generatedDue_waits (by exact hs)]
      rfl

end Sys2Proof.Machine
end

section
/-! A port error with strict stop over the kettle: the port isolated, the dip or the pair aborted, the first isolation
stop sent (R12, R16, R17, R92, R115, R148, R179). -/

namespace Sys2Proof.Machine

/-! ## The abort of a dip (R92, R115, R148) -/

/-- NO_CONTACT of a dip that is aborted now: already set, or the context is in LOWERING (R92). -/
def abortsUntouched (c : Context) : Bool := c.flags.noContact || c.state == .lowering

/-- The state after a dip's abort, but for the poll mode, which follows it. -/
def dipAborted (h : Hoist) (tg : TagArgs) (s : State) : State :=
  let c := s.contexts.get h
  { s with
    tables := if abortsUntouched c then s.tables else unweighedTables tg s
    records := s.records ++ [dipRecord { c with flags := { c.flags with noContact := abortsUntouched c } } tg
      (if joint s then .both else .one h) .aborted s]
    nextRecord := s.nextRecord + 1
    notices := { s.notices with
      dipClosed := true, recordQueueHigh := s.notices.recordQueueHigh || s.records.length == 39 }
    contexts := (changeDip h (fun x => { x with
      state := .abandoned, drainTimer := none, grounded := false, reserved := false
      flags := { x.flags with noContact := abortsUntouched x } }) s).contexts }

/-- An ABORTED close: the record, its notices, and the charge but with NO_CONTACT (R144, R148, R150, R151). -/
theorem closeAborted_eq (c : Context) (tg : TagArgs) (hoist : RecordHoist) (s : State) : closeAborted c tg hoist s
    = { s with
      tables := if c.flags.noContact then s.tables else unweighedTables tg s
      records := s.records ++ [dipRecord c tg hoist .aborted s]
      nextRecord := s.nextRecord + 1
      notices := { s.notices with
        dipClosed := true, recordQueueHigh := s.notices.recordQueueHigh || s.records.length == 39 } } := by
  have high : (s.records.length + 1 == Config.recordsHigh) = (s.records.length == 39) :=
    Bool.eq_iff_iff.2 (by simp [Config.recordsHigh])
  unfold closeAborted writeRecord
  rw [high]
  cases hn : c.flags.noContact <;> cases s.records.length == 39 <;> simp <;> rfl

/-- NO_CONTACT does not bear on the pair. -/
theorem joint_markNoContact (h : Hoist) (s : State) : joint (changeDip h Context.markNoContact s) = joint s := by
  unfold joint changeDip
  cases sharesDip h .h1 s <;> cases sharesDip h .h2 s <;> rfl

/-- Two changes of a dip's contexts are one, where the first leaves the pair as it is. -/
theorem changeDip_changeDip (h : Hoist) (f g : Context → Context) (s : State) (hj : joint (changeDip h f s) = joint s) :
    changeDip h g (changeDip h f s) = changeDip h (fun x => g (f x)) s := by
  have shares (x : Hoist) : sharesDip h x (changeDip h f s) = sharesDip h x s := by simp only [sharesDip, hj]
  unfold changeDip at shares ⊢
  simp only [shares]
  cases sharesDip h .h1 s <;> cases sharesDip h .h2 s <;> rfl

theorem abortDip_pollOnly {h : Hoist} {tg : TagArgs} {s : State} (ht : (s.contexts.get h).tag = some tg) :
    PollOnly (dipAborted h tg s) (abortDip h s) := by
  have own : (changeDip h Context.markNoContact s).contexts.get h = (s.contexts.get h).markNoContact := by
    rw [changeDip_get, sharesDip]
    simp
  have hoist : recordHoist h (changeDip h Context.markNoContact s) = if joint s then .both else .one h := by
    rw [recordHoist, joint_markNoContact]
  have both : members h s = members h (closeAborted ((s.contexts.get h).markNoContact) tg
      (if joint s then .both else .one h) (changeDip h Context.markNoContact s)) := by
    simp only [members, closeAborted_eq]
    rw [← joint_markNoContact h s]
    rfl
  simp only [abortDip, ht, modContexts_members, own, hoist]
  rw [both, modContexts_members]
  have aborted : changeDip h Context.abort (closeAborted ((s.contexts.get h).markNoContact) tg
      (if joint s then .both else .one h) (changeDip h Context.markNoContact s)) = dipAborted h tg s := by
    have twice := changeDip_changeDip h Context.markNoContact Context.abort s (joint_markNoContact h s)
    rw [closeAborted_eq]
    exact congrArg (fun x : State => { dipAborted h tg s with contexts := x.contexts }) twice
  rw [aborted]
  exact syncPollMode_pollOnly _

/-! ## Isolation (R16, R17) -/

/-- The state of an isolation as the dip is aborted: the port ISOLATED, its slot and its pending request abandoned. -/
def cutOff (h : Hoist) (s : State) : State := { s with
  sent := s.sent ++ slotReply (s.ports.get h.port).slot .portIsolated s
  ports := s.ports.set h.port { s.ports.get h.port with
    state := .isolated, recovery := none, slot := none, pending := none }
  notices := { s.notices with portIsolated := true } }

theorem isolate_eq (h : Hoist) (s : State) : isolate h s =
    let t := sendStop h .isolationStop (abortDip h (cutOff h s))
    t.setPort h.port { t.ports.get h.port with stopTimer := some (t.now + 100) } := by
  have cut : setNotice .portIsolated ((abandonSlot h.port .portIsolated (s.setPort h.port
      { s.ports.get h.port with state := .isolated, recovery := none })).setPort h.port
        { (abandonSlot h.port .portIsolated (s.setPort h.port
            { s.ports.get h.port with state := .isolated, recovery := none })).ports.get h.port with pending := none })
      = cutOff h s := by
    rw [abandonSlot_eq]
    simp only [State.setPort, PerPort.get_set_same, PerPort.set_set]
    rfl
  simp only [isolate, cut, sendGenerated_isolationStop, Config.isolationInterval]

theorem PerPort.get_hoist_port {α : Type} (v : PerPort α) (x : α) (h : Hoist) :
    ({ v with k := x } : PerPort α).get h.port = v.get h.port := by
  cases h <;> rfl

theorem Hoist.other_port_ne (h : Hoist) : h.other.port ≠ h.port := by
  cases h <;> exact nofun

/-- An abort leaves the settings of the ports, the hoists and the part's address. -/
theorem dipAborted_settings (h : Hoist) (tg : TagArgs) (s : State) :
    (dipAborted h tg s).tables.hoists = s.tables.hoists ∧ (dipAborted h tg s).tables.ports = s.tables.ports
      ∧ (dipAborted h tg s).tables.ownAddress = s.tables.ownAddress := by
  simp only [dipAborted]
  cases abortsUntouched (s.contexts.get h) <;> exact ⟨rfl, rfl, rfl⟩

/-- The isolation of a hoist without a station: no stop goes down (R29). -/
theorem isolate_noStation {h : Hoist} {tg : TagArgs} {s : State} (ht : (s.contexts.get h).tag = some tg)
    (ha : (s.tables.hoists.get h).station = none) :
    ∃ (l : List Sent) (n : Byte) (k : PortUnit) (b : BathMonitor), upFrames l = [] ∧
      isolate h s = { dipAborted h tg (cutOff h s) with
        sent := (cutOff h s).sent ++ l, seqCounter := n, bath := b
        ports := ({ (cutOff h s).ports with k := k } : PerPort PortUnit).set h.port
          { s.ports.get h.port with
            state := .isolated, recovery := none, slot := none, pending := none
            stopTimer := some (s.now + 100) } } := by
  obtain ⟨l, n, k, b, hl, he⟩ := abortDip_pollOnly (s := cutOff h s) ht
  obtain ⟨hoists, -, -⟩ := dipAborted_settings h tg (cutOff h s)
  refine ⟨l, n, k, b, hl, ?_⟩
  rw [isolate_eq, he, sendStop_none h _ _ (by simp only [hoists]; exact ha)]
  simp only [State.setPort, PerPort.get_hoist_port]
  simp only [dipAborted, cutOff, PerPort.get_set_same]

/-- The isolation of a hoist with a station: the first isolation stop is the last frame (R17). -/
theorem isolate_station {h : Hoist} {tg : TagArgs} {a : Nat} {s : State} (ht : (s.contexts.get h).tag = some tg)
    (ha : (s.tables.hoists.get h).station = some a) :
    ∃ (l : List Sent) (n : Byte) (k : PortUnit) (b : BathMonitor), upFrames l = [] ∧
      isolate h s = { dipAborted h tg (cutOff h s) with
        sent := (cutOff h s).sent ++ l ++ [.down h.port ⟨BitVec.ofNat 8 a, BitVec.ofNat 8 s.tables.ownAddress, false,
          true, false, 0, n, 0x31, [0, 0, 0, 0, 0, 0]⟩]
        seqCounter := n + 1, bath := b
        ports := ({ (cutOff h s).ports with k := k } : PerPort PortUnit).set h.port
          { s.ports.get h.port with
            state := .isolated, recovery := none, pending := none, stopTimer := some (s.now + 100)
            slot := some ⟨.generated, BitVec.ofNat 8 a, n, 0x31,
              s.now + (s.tables.ports.get h.port).replyTimeout⟩ }
        motion := s.motion.set h { s.motion.get h with
          applied := ⟨.stop, 0, .stop, 0⟩, sender := .isolationStop
          commandTimer := some (s.now + (s.tables.hoists.get h).commandTimeout) } } := by
  obtain ⟨l, n, k, b, hl, he⟩ := abortDip_pollOnly (s := cutOff h s) ht
  obtain ⟨hoists, ports, own⟩ := dipAborted_settings h tg (cutOff h s)
  refine ⟨l, n, k, b, hl, ?_⟩
  rw [isolate_eq, he, sendStop_some h _ a _ (by simp only [hoists]; exact ha)]
  simp only [State.setPort, PerPort.get_set_same, PerPort.set_set, PerPort.get_hoist_port, madeFrame, filledSlot,
    hoists, ports, own]
  simp only [dipAborted, cutOff, PerPort.get_set_same]

/-! ## The three port errors -/

/-- The state as a port error that will isolate the port has been counted. -/
def erred (h : Hoist) (l : List Sent) (v : PortUnit) (s : State) : State :=
  { s with sent := l, ports := s.ports.set h.port v, notices := { s.notices with portFault := true } }

theorem overKettle_strictStops {h : Hoist} {s : State} (hs : (s.tables.ports.get h.port).strictStop = true)
    (hk : (s.contexts.get h).state.overKettle = true) : strictStops h.port s = true := by
  simp only [strictStops, Hoist.hoist_port, hs, hk, Bool.and_self]

theorem portError_erred {h : Hoist} {s : State} (e : PortError)
    (hu : (s.ports.get h.port).state = .opened ∨ (s.ports.get h.port).state = .faulted)
    (hs : strictStops h.port s = true) :
    portError h.port e s = isolate h (erred h s.sent ((s.ports.get h.port).mark e) s) := by
  rw [portError_isolates hu hs]
  rfl

/-- After an isolation no request is pending. -/
theorem sendPending_isolate {h : Hoist} {tg : TagArgs} {s : State} (ht : (s.contexts.get h).tag = some tg) :
    sendPending h.port (isolate h s) = isolate h s := by
  refine sendPending_waits (.inr (.inl ?_))
  cases ha : (s.tables.hoists.get h).station with
  | none =>
    obtain ⟨l, n, k, b, -, he⟩ := isolate_noStation ht ha
    rw [he]
    simp only [PerPort.get_set_same]
  | some a =>
    obtain ⟨l, n, k, b, -, he⟩ := isolate_station ht ha
    rw [he]
    simp only [PerPort.get_set_same]

/-- An error that frees the slot first (R8, R10) and then isolates the port. -/
theorem freeWithError_isolates {h : Hoist} {tg : TagArgs} {s : State} (lc : LocalCode) (e : PortError)
    (hu : (s.ports.get h.port).state = .opened ∨ (s.ports.get h.port).state = .faulted)
    (hs : strictStops h.port s = true) (ht : (s.contexts.get h).tag = some tg) :
    freeWithError h.port lc e s = isolate h (erred h (s.sent ++ slotReply (s.ports.get h.port).slot lc s)
      (PortUnit.mark { s.ports.get h.port with slot := none } e) s) := by
  have free : portError h.port e (abandonSlot h.port lc s)
      = isolate h (erred h (s.sent ++ slotReply (s.ports.get h.port).slot lc s)
        (PortUnit.mark { s.ports.get h.port with slot := none } e) s) := by
    rw [abandonSlot_eq, portError_erred e (by simpa using hu) (by exact hs)]
    simp only [erred, PerPort.get_set_same, PerPort.set_set]
  rw [freeWithError, free]
  exact sendPending_isolate (s := erred h _ _ s) ht

/-- Settles O21: each error comes to an isolation (`portError_erred`, `freeWithError_isolates`), whose parts are read off
`isolate_station` or `isolate_noStation`. -/
theorem strictStopIsolatesThePort : Obligations.StrictStopIsolatesThePort := by
  intro h cmd s u v ups c tg nc hu hc hw hst hk ht hnc hcmd
  subst hu hc hnc
  have stops : strictStops h.port s.begin = true := overKettle_strictStops hst hk
  have isolates : ∃ l v', exec cmd s = .next (isolate h (erred h l v' s))
      ∧ { v' with slot := none } = { v with slot := none }
      ∧ l ++ slotReply v'.slot .portIsolated (erred h l v' s) = ups := by
    rcases hcmd with ⟨bytes, f, rfl, hf, hm, rfl, rfl⟩ | ⟨bytes, rfl, hf, rfl, rfl⟩ | ⟨rfl, hd, rfl, rfl⟩
    · refine ⟨[], _, ?_, rfl, rfl⟩
      rw [exec_downstreamFrame, receiveDown_undamaged hf (by rcases hw with hw | hw <;> simp [hw]),
        undamagedFrame_stray (by exact hm), portError_erred _ (by exact hw) stops]
      rfl
    · refine ⟨slotReply (s.ports.get h.port).slot .replyDamaged s,
        PortUnit.mark { s.ports.get h.port with slot := none } .damaged, ?_, rfl, List.append_nil _⟩
      rw [exec_downstreamFrame, receiveDown_damaged hf (by rcases hw with hw | hw <;> simp [hw]),
        freeWithError_isolates _ _ (by exact hw) stops (by exact ht)]
      rfl
    · refine ⟨slotReply (s.ports.get h.port).slot .noReply s,
        PortUnit.mark { s.ports.get h.port with slot := none } .timeout, ?_, rfl, List.append_nil _⟩
      rw [exec_replyTimerExpiry, replyTimeout_due (by exact hd),
        freeWithError_isolates _ _ (by exact hw) stops (by exact ht)]
      rfl
  obtain ⟨l, v', runs, hv, rfl⟩ := isolates
  have own : (erred h l v' s).ports.get h.port = v' := PerPort.get_set_same _ _ _
  have replies : (cutOff h (erred h l v' s)).sent = l ++ slotReply v'.slot .portIsolated (erred h l v' s) :=
    congrArg (fun u : PortUnit => l ++ slotReply u.slot .portIsolated (erred h l v' s)) own
  have others (x : PortUnit) (k : PortUnit) : (({ (cutOff h (erred h l v' s)).ports with k := k } :
      PerPort PortUnit).set h.port x).get h.other.port = s.ports.get h.other.port := by
    rw [PerPort.get_set, if_neg (Hoist.other_port_ne h), PerPort.get_hoist_port]
    simp only [cutOff, erred, PerPort.get_set, if_neg (Hoist.other_port_ne h)]
  have ended (sl : Option Slot) : { v' with
        state := .isolated, recovery := none, pending := none, stopTimer := some (s.now + 100), slot := sl }
      = { v with
        state := .isolated, recovery := none, pending := none, stopTimer := some (s.now + 100), slot := sl } :=
    congrArg (fun u : PortUnit => { u with
      state := .isolated, recovery := none, pending := none, stopTimer := some (s.now + 100), slot := sl }) hv
  cases ha : (s.tables.hoists.get h).station with
  | none =>
    obtain ⟨frames, n, k, b, hup, he⟩ := isolate_noStation (s := erred h l v' s) ht ha
    rw [he] at runs
    refine ⟨_, n, runs, ?_, others _ k, ?_, nofun, fun _ => rfl, rfl, rfl, rfl, rfl, rfl, rfl, rfl, rfl⟩
    · rw [PerPort.get_set_same, own, ← ended]
      rfl
    · rw [replies, upFrames_append, hup, List.append_nil]
  | some a =>
    obtain ⟨frames, n, k, b, hup, he⟩ := isolate_station (s := erred h l v' s) ht ha
    rw [he] at runs
    refine ⟨_, n, runs, ?_, others _ k, ?_, fun a' ha' => ?_, nofun, rfl, rfl, rfl, rfl, rfl, rfl, rfl, rfl⟩
    · rw [PerPort.get_set_same, own, ← ended]
      rfl
    · rw [replies, upFrames_append, upFrames_append, hup, List.append_nil]
      exact List.append_nil _
    · cases ha'
      exact ⟨rfl, List.getLast?_concat, rfl⟩

end Sys2Proof.Machine
end

section
/-! The passing of time on an empty queue, and the expiries it gives (R77, log 2). -/

namespace Sys2Proof.Machine

/-! ## Which timers give an expiry -/

theorem mem_whenDue {c d : Instr} {timer : Option Nat} {s : State} :
    c ∈ whenDue timer d s ↔ c = d ∧ reachedBy timer s.now := by
  unfold whenDue
  rw [← due_iff]
  split <;> simp_all

/-- The isolation stop timer of a port that has run out: of a hoist's port alone. -/
def stopExpiries (p : Port) (s : State) : List Instr :=
  match Port.hoist p with
  | some h =>
    if (s.ports.get p).state = .isolated then whenDue (s.ports.get p).stopTimer (.isolationStopTimerExpiry h) s else []
  | none => []

theorem portExpiries_eq (p : Port) (s : State) : portExpiries p s =
    whenDue ((s.ports.get p).slot.map Slot.deadline) (.replyTimerExpiry p) s
      ++ (if (s.ports.get p).state = .faulted then whenDue (s.ports.get p).recovery (.recoveryTimerExpiry p) s else [])
      ++ stopExpiries p s
      ++ (if (s.ports.get p).state = .restarting then whenDue (s.ports.get p).restartHold (.restartHoldExpiry p) s
        else []) := rfl

theorem mem_stopExpiries {c : Instr} {p : Port} {s : State} : c ∈ stopExpiries p s ↔
    ∃ h : Hoist, h.port = p ∧ c = .isolationStopTimerExpiry h ∧ (s.ports.get p).state = .isolated
      ∧ reachedBy (s.ports.get p).stopTimer s.now := by
  unfold stopExpiries
  split
  · next x hx =>
    obtain rfl := port_of_hoist hx
    have only (h : Hoist) (e : h.port = x.port) : h = x := by simpa using congrArg Port.hoist e
    rw [List.mem_ite_nil_right, mem_whenDue]
    exact ⟨fun ⟨hs, hc, hd⟩ => ⟨x, rfl, hc, hs, hd⟩, fun ⟨h, hp, hc, hs, hd⟩ => ⟨hs, only h hp ▸ hc, hd⟩⟩
  · next hn =>
    refine iff_of_false List.not_mem_nil (fun ⟨h, hp, _⟩ => ?_)
    rw [← hp, Hoist.hoist_port] at hn
    cases hn

theorem mem_portExpiries {c : Instr} {p : Port} {s : State} : c ∈ portExpiries p s ↔
    (c = .replyTimerExpiry p ∧ reachedBy ((s.ports.get p).slot.map Slot.deadline) s.now)
      ∨ ((s.ports.get p).state = .faulted ∧ c = .recoveryTimerExpiry p ∧ reachedBy (s.ports.get p).recovery s.now)
      ∨ (∃ h : Hoist, h.port = p ∧ c = .isolationStopTimerExpiry h ∧ (s.ports.get p).state = .isolated
          ∧ reachedBy (s.ports.get p).stopTimer s.now)
      ∨ ((s.ports.get p).state = .restarting ∧ c = .restartHoldExpiry p
          ∧ reachedBy (s.ports.get p).restartHold s.now) := by
  simp only [portExpiries_eq, List.mem_append, List.mem_ite_nil_right, mem_whenDue, mem_stopExpiries, or_assoc]

theorem mem_hoistExpiries {c : Instr} {h : Hoist} {s : State} : c ∈ hoistExpiries h s ↔
    (c = .commandTimerExpiry h ∧ reachedBy (s.motion.get h).commandTimer s.now)
      ∨ ((s.contexts.get h).state = .draining ∧ c = .drainDwellExpiry h
          ∧ reachedBy (s.contexts.get h).drainTimer s.now)
      ∨ ((s.contexts.get h).state = .weighing ∧ c = .weighTimerExpiry h
          ∧ reachedBy (s.contexts.get h).weighTimer s.now)
      ∨ ((s.contexts.get h).state = .jigWeigh ∧ c = .jigWeighTimerExpiry h
          ∧ reachedBy (s.contexts.get h).jigWeigh.timer s.now) := by
  simp only [hoistExpiries, List.mem_append, List.mem_ite_nil_right, mem_whenDue, or_assoc]

theorem mem_expiries {c : Instr} {s : State} : c ∈ expiries s ↔
    (∃ p, c ∈ portExpiries p s) ∨ (∃ h, c ∈ hoistExpiries h s)
      ∨ (c = .pollTimerExpiry ∧ reachedBy s.bath.pollTimer s.now)
      ∨ (∃ fig, c = .staleExpiry fig ∧ reachedBy ((s.bath.figure fig).bind Figure.deadline) s.now)
      ∨ (c = .saveCompletion ∧ reachedBy (s.save.map Save.deadline) s.now) := by
  have ports : (∃ p, c ∈ portExpiries p s) ↔ c ∈ portExpiries .a s ∨ c ∈ portExpiries .b s ∨ c ∈ portExpiries .k s :=
    ⟨fun ⟨p, hp⟩ => by cases p <;> simp [hp], by rintro (h | h | h) <;> exact ⟨_, h⟩⟩
  have hoists : (∃ h, c ∈ hoistExpiries h s) ↔ c ∈ hoistExpiries .h1 s ∨ c ∈ hoistExpiries .h2 s :=
    ⟨fun ⟨h, hh⟩ => by cases h <;> simp [hh], by rintro (h | h) <;> exact ⟨_, h⟩⟩
  have figures : (∃ fig, c = .staleExpiry fig ∧ reachedBy ((s.bath.figure fig).bind Figure.deadline) s.now) ↔
      (c = .staleExpiry .temperature ∧ reachedBy (s.bath.temperature.bind Figure.deadline) s.now)
        ∨ (c = .staleExpiry .level ∧ reachedBy (s.bath.level.bind Figure.deadline) s.now) :=
    ⟨fun ⟨fig, hf⟩ => by cases fig; exacts [.inl hf, .inr hf],
     by rintro (h | h); exacts [⟨.temperature, h⟩, ⟨.level, h⟩]⟩
  rw [ports, hoists, figures]
  simp only [expiries, List.mem_append, mem_whenDue, or_assoc]

/-- An expiry is one of a port's, of a hoist's, or of the part's own timers. -/
theorem expiries_kinds (s : State) : ∀ c ∈ expiries s,
    (∃ p, c = .replyTimerExpiry p ∨ c = .recoveryTimerExpiry p ∨ c = .restartHoldExpiry p)
      ∨ (∃ h, c = .isolationStopTimerExpiry h ∨ c = .commandTimerExpiry h ∨ c = .drainDwellExpiry h
          ∨ c = .weighTimerExpiry h ∨ c = .jigWeighTimerExpiry h)
      ∨ c = .pollTimerExpiry ∨ (∃ fig, c = .staleExpiry fig) ∨ c = .saveCompletion := by
  intro c hc
  simp only [mem_expiries, mem_portExpiries, mem_hoistExpiries] at hc
  rcases hc with ⟨p, ⟨rfl, _⟩ | ⟨_, rfl, _⟩ | ⟨x, _, rfl, _⟩ | ⟨_, rfl, _⟩⟩
    | ⟨x, ⟨rfl, _⟩ | ⟨_, rfl, _⟩ | ⟨_, rfl, _⟩ | ⟨_, rfl, _⟩⟩ | ⟨rfl, _⟩ | ⟨fig, rfl, _⟩ | ⟨rfl, _⟩
  all_goals simp

/-! ## Each expiry once -/

/-- The expiries that a port can give, in their order. -/
def portCommands (p : Port) : List Instr :=
  [.replyTimerExpiry p] ++ [.recoveryTimerExpiry p]
    ++ (match Port.hoist p with
      | some h => [.isolationStopTimerExpiry h]
      | none => [])
    ++ [.restartHoldExpiry p]

/-- The expiries that a hoist can give, in their order. -/
def hoistCommands (h : Hoist) : List Instr :=
  [.commandTimerExpiry h] ++ [.drainDwellExpiry h] ++ [.weighTimerExpiry h] ++ [.jigWeighTimerExpiry h]

/-- Every expiry, in the order in which they join the queue. -/
def expiryCommands : List Instr :=
  portCommands .a ++ portCommands .b ++ portCommands .k ++ hoistCommands .h1 ++ hoistCommands .h2
    ++ [.pollTimerExpiry] ++ [.staleExpiry .temperature] ++ [.staleExpiry .level] ++ [.saveCompletion]

theorem whenDue_sublist (timer : Option Nat) (c : Instr) (s : State) : (whenDue timer c s).Sublist [c] := by
  unfold whenDue
  split
  · exact .refl _
  · exact List.nil_sublist _

theorem ite_nil_sublist {c : Prop} [Decidable c] {l m : List Instr} (h : l.Sublist m) :
    (if c then l else []).Sublist m := by
  split
  · exact h
  · exact List.nil_sublist _

theorem portExpiries_sublist (p : Port) (s : State) : (portExpiries p s).Sublist (portCommands p) := by
  refine (((whenDue_sublist _ _ s).append (ite_nil_sublist (whenDue_sublist _ _ s))).append ?_).append
    (ite_nil_sublist (whenDue_sublist _ _ s))
  cases Port.hoist p with
  | some h => exact ite_nil_sublist (whenDue_sublist _ _ s)
  | none => exact List.nil_sublist _

theorem hoistExpiries_sublist (h : Hoist) (s : State) : (hoistExpiries h s).Sublist (hoistCommands h) :=
  (((whenDue_sublist _ _ s).append (ite_nil_sublist (whenDue_sublist _ _ s))).append
    (ite_nil_sublist (whenDue_sublist _ _ s))).append (ite_nil_sublist (whenDue_sublist _ _ s))

theorem expiries_sublist (s : State) : (expiries s).Sublist expiryCommands := by
  have timer := fun t c => whenDue_sublist t c s
  exact ((((((((portExpiries_sublist .a s).append (portExpiries_sublist .b s)).append
    (portExpiries_sublist .k s)).append (hoistExpiries_sublist .h1 s)).append (hoistExpiries_sublist .h2 s)).append
    (timer _ _)).append (timer _ _)).append (timer _ _)).append (timer _ _)

theorem expiryCommands_nodup : expiryCommands.Nodup := by
  simp [expiryCommands, portCommands, hoistCommands, Port.hoist]

/-- Settles O2: the expiries of the state one millisecond on, by `mem_expiries` and `expiries_sublist`. -/
theorem emptyQueuePassesOneMillisecond : Obligations.EmptyQueuePassesOneMillisecond := by
  intro s hp
  refine ⟨expiries { s with now := s.now + 1, sent := [] }, ?_, fun p => ?_, fun p => ?_, fun h => ?_, fun p => ?_,
    fun h => ?_, fun h => ?_, fun h => ?_, fun h => ?_, ?_, fun fig => ?_, ?_,
    (expiries_sublist _).nodup expiryCommands_nodup, expiries_kinds _⟩
  · rw [step, hp]
    simp only [tick, hp, List.nil_append]
  all_goals simp [mem_expiries, mem_portExpiries, mem_hoistExpiries]

end Sys2Proof.Machine
end

section
/-! Start-up: the values of the first reset, and DEVICE RESET (R22, R43, R60, R100, R130, R172, R177, R178). -/

namespace Sys2Proof.Machine

/-- Settles O3: every value stands in `State.reset`, port by port and hoist by hoist. -/
theorem resetHoldsTheValuesOfABadImage : Obligations.ResetHoldsTheValuesOfABadImage := by
  have windows (p : Port) : (State.reset.tables.ports.get p).window.limit < (State.reset.tables.ports.get p).window.base
      ∧ (State.reset.tables.ports.get p).replyTimeout = 8 ∧ (State.reset.tables.ports.get p).recoveryTime = 1000
      ∧ (State.reset.tables.ports.get p).strictStop = false := by
    cases p <;> exact ⟨by decide, rfl, rfl, rfl⟩
  have traps (e : TrapEntry) (he : e ∈ State.reset.tables.traps.toList) : e = ⟨false, 0, 0, 0, 0, 0, 0, .always, .note⟩ :=
    List.eq_of_mem_replicate (n := 8) he
  have profiles (x : Option Profile) (hx : x ∈ State.reset.tables.profiles.toList) : x = none :=
    List.eq_of_mem_replicate (n := 16) hx
  refine ⟨rfl, windows, traps, fun h => by cases h <;> exact ⟨rfl, rfl⟩, rfl, profiles, rfl, rfl,
    fun z => by cases z <;> rfl, rfl, rfl, rfl, rfl, rfl, rfl, rfl, rfl, fun g => by cases g <;> rfl,
    rfl, rfl, rfl, rfl, rfl, rfl, rfl, rfl, fun p => by cases p <;> rfl, rfl, fun h => ?_,
    fun z => by cases z <;> rfl, rfl, rfl, rfl, rfl, by decide, rfl, rfl⟩
  cases h <;> exact ⟨rfl, rfl, 0, 0, rfl⟩

/-- What start-up takes from the image: a good one's tables, or the defaults (R172). -/
theorem goodImage_cases {image : Option StoredImage} {x : Tables} {good : Bool}
    (h : (image = some ⟨x, crc16 (imageContent x)⟩ ∧ x.ok = true ∧ good = true)
      ∨ ((∀ y, image = some y → y.check ≠ crc16 (imageContent y.content) ∨ y.content.ok = false)
        ∧ x = Tables.initial ∧ good = false)) :
    (goodImage image).getD .initial = x ∧ (goodImage image).isSome = good := by
  rcases h with ⟨hi, hx, rfl⟩ | ⟨hbad, rfl, rfl⟩
  · rw [(goodImage_eq_some_iff image x).2 ⟨hi, hx⟩]
    exact ⟨rfl, rfl⟩
  · have none : goodImage image = none := by
      cases image with
      | none => rfl
      | some y =>
        have bad : ¬ y.good = true := by
          rw [good_iff]
          rintro ⟨hcheck, hok⟩
          rcases hbad y rfl with hc | hn
          · exact hc hcheck
          · exact Bool.false_ne_true (hn.symm.trans hok)
        simp only [goodImage, bad]
        rfl
    rw [none]
    exact ⟨rfl, rfl⟩

theorem pollDue_none {s : State} (h : s.tables.bath.station = none) : pollDue s = s := by
  simp [pollDue, h]

/-- A poll falls due on a free port K (R120). -/
theorem pollDue_sends {a : Nat} {s : State} (h : s.tables.bath.station = some a) (hs : s.ports.k.slot = none)
    (hu : s.ports.k.state = .opened ∨ s.ports.k.state = .faulted) : pollDue s = sendPoll s := by
  rw [pollDue, h]
  exact generatedDue_sends (p := .k) hs (maySend_working hu)

/-- Settles O5: start-up's tables by `goodImage_cases`, then the poll that is due at once (R130). -/
theorem deviceResetStartsThePartAfresh : Obligations.DeviceResetStartsThePartAfresh := by
  intro cause service s x good h
  obtain ⟨hx, hg⟩ := goodImage_cases h
  have tables : startTables s.image service = { x with calibrationLock := x.calibrationLock && !service } := by
    rw [startTables, hx]
  have hoists (t : State) (hm : t.motion = (startState s.image cause service s.pending).motion)
      (hc : t.channels = (startState s.image cause service s.pending).channels) (hd : t.contexts = State.reset.contexts)
      (h : Hoist) : t.motion.get h = HoistMotion.initial (min (x.hoists.get h).ratedUp (x.hoists.get h).ratedDown)
        ∧ t.channels.get h = Channel.initial ((x.calibration.get h).map CalRecord.zero)
        ∧ t.contexts.get h = Context.initial := by
    rw [hm, hc, hd]
    simp only [startState, tables]
    cases h <;> exact ⟨rfl, rfl, rfl⟩
  have owners (z : Zone) : State.reset.owners.get z = .none := by cases z <;> rfl
  have runs : exec (.deviceReset cause service) s = .next (pollDue (startState s.image cause service s.pending)) := rfl
  rw [runs]
  cases ha : x.bath.station with
  | none =>
    rw [pollDue_none (by simp only [startState, tables]; exact ha)]
    refine ⟨_, rfl, tables, rfl, rfl, by simp only [startState, hg], rfl, rfl, rfl, rfl, rfl, rfl, rfl,
      hoists _ rfl rfl rfl, owners, rfl, rfl, rfl, by simp only [startState, hg], rfl, fun _ => ⟨rfl, rfl, rfl, rfl⟩,
      nofun⟩
  | some a =>
    rw [pollDue_sends (a := a) (by simp only [startState, tables]; exact ha) rfl (.inl rfl),
      sendPoll_some a _ (by simp only [startState, tables]; exact ha)]
    refine ⟨_, rfl, tables, rfl, rfl, by simp only [startState, hg], rfl, rfl, rfl, rfl, rfl, rfl, rfl,
      hoists _ rfl rfl rfl, owners, rfl, rfl, rfl, by simp only [startState, hg], rfl, nofun, fun a' ha' => ?_⟩
    cases ha'
    simp only [startState, tables]
    refine ⟨?_, ?_, rfl, rfl⟩
    · exact congrArg (fun n => { BathMonitor.initial with lastPoll := some 0, pollTimer := some n }) (Nat.zero_add _)
    · exact congrArg (fun n => { PortUnit.initial with slot := some ⟨.generated, BitVec.ofNat 8 a, 0, 0x50, n⟩ })
        (Nat.zero_add _)

end Sys2Proof.Machine
end

section
/-! The requests that load the link's and the filter's settings, by their checks in order (R3, R15, R23, R27, R29,
R38, R169). -/

namespace Sys2Proof.Machine

/-! ## Checks in two groups -/

theorem firstFailure_append (l m : List (Bool × Status)) :
    firstFailure (l ++ m) = (firstFailure l).or (firstFailure m) := by
  induction l with
  | nil => rfl
  | cons c l ih => obtain ⟨_ | _, st⟩ := c <;> simp [firstFailure, ih]

/-- Checks that all refuse with the same status. -/
theorem firstFailure_uniform (st : Status) (bs : List Bool) :
    firstFailure (bs.map (·, st)) = if bs.any id then some st else none := by
  induction bs with
  | nil => rfl
  | cons b bs ih => cases b <;> simp [firstFailure, ih]

/-- A rule that refuses with one status where a check of `bs` fails, with another where one of `cs` does, and is else
accepted, is the list of both groups of checks. -/
theorem gated {rule : State → Answer} {st st' : Status} {bs cs : List Bool} {s s' : State}
    (h : rule s.begin = if bs.any id then refuse st s.begin else if cs.any id then refuse st' s.begin
      else accept s'.begin) :
    rule s.begin = match firstFailure (bs.map (·, st) ++ cs.map (·, st')) with
      | some st => refuse st s.begin
      | none => { status := .done, data := [], state := s'.begin } := by
  rw [h, firstFailure_append, firstFailure_uniform, firstFailure_uniform]
  cases bs.any id
  · cases cs.any id <;> rfl
  · rfl

/-- A request with checks of one status. -/
theorem manage_gated {q : Req} {code : Byte} {rule : State → Answer} {st : Status} {bs : List Bool} {s s' : State}
    (h : rule s.begin = if bs.any id then refuse st s.begin else accept s'.begin) :
    manage q code false rule s = .next (checked q code (bs.map (·, st)) [] s s') := by
  have hc := gated (rule := rule) (st := st) (st' := st) (bs := bs) (cs := []) h
  rw [List.map_nil, List.append_nil] at hc
  exact manage_checked q code rule _ [] s s' hc

/-- The same of a request that changes a stored table. -/
theorem manage_gated_stored {q : Req} {code : Byte} {rule : State → Answer} {st : Status} {bs : List Bool}
    {s s' : State} (h : rule s.begin = if bs.any id then refuse st s.begin else accept s'.begin) :
    manage q code true rule s = .next (checked q code ((s.save.isSome, .busy) :: bs.map (·, st)) [] s s') := by
  have hc := gated (rule := rule) (st := st) (st' := st) (bs := bs) (cs := []) h
  rw [List.map_nil, List.append_nil] at hc
  exact manage_checked_stored q code rule _ [] s s' hc

theorem within_eq (lo hi n : Nat) : within lo hi n = !decide (n < lo ∨ hi < n) := by
  rw [Bool.eq_iff_iff]
  simp [within]

theorem ite_not_accept {b : Bool} {st : Status} {s t : State} :
    (if (!b) = true then accept t else refuse st s) = if b then refuse st s else accept t := by
  cases b <;> rfl

/-! ## The link's settings (R3, R15, R169) -/

/-- SET ADDRESS (R169). -/
theorem exec_setAddress (q : Req) (a : Nat) (s : State) : exec (.setAddress q a) s = .next (checked q 0x81
    [(s.save.isSome, .busy), (decide (a < 1 ∨ 126 < a), .outOfRange),
     ([Port.a, Port.b, Port.k].any (fun p => Window.holds (s.tables.ports.get p).window a), .outOfRange)]
    [] s { s with tables := { s.tables with ownAddress := a } }) := by
  refine manage_gated_stored (rule := setAddressRule a) (st := .outOfRange) (bs := [decide (a < 1 ∨ 126 < a),
    [Port.a, Port.b, Port.k].any (fun p => Window.holds (s.tables.ports.get p).window a)]) ?_
  rw [setAddressRule, addressOk, within_eq, ← ite_not_accept]
  simp [Bool.and_assoc]
  rfl

/-- Two windows overlap where an address of the bus is in both (R3). -/
theorem overlaps_eq {v w : Window} (hv : Window.boundsOk v = true) : Window.overlaps v w
    = (List.range 127).any (fun a => Window.holds v a && Window.holds w a) := by
  rw [Bool.eq_iff_iff, List.any_eq_true]
  simp only [Window.boundsOk, addressOk, within, Bool.and_eq_true, decide_eq_true_eq] at hv
  simp only [Window.overlaps, Window.holds, Bool.and_eq_true, decide_eq_true_eq, List.mem_range]
  exact ⟨fun h => ⟨max v.base w.base, by omega, by omega, by omega⟩, fun ⟨a, _, _, _⟩ => by omega⟩

theorem boundsOk_eq (w : Window) : Window.boundsOk w
    = !decide (w.base < 1 ∨ 126 < w.base ∨ w.limit < 1 ∨ 126 < w.limit) := by
  rw [Window.boundsOk, addressOk, addressOk, within_eq, within_eq, ← Bool.not_or]
  simp only [Bool.decide_or, Bool.or_assoc]

theorem any_or {α : Type} (l : List α) (f g : α → Bool) : l.any (fun a => f a || g a) = (l.any f || l.any g) := by
  induction l with
  | nil => rfl
  | cons x l ih => simp only [List.any_cons, ih]; ac_rfl

theorem windowsOk_eq (own : Nat) (wa wb wk : Window) : windowsOk own wa wb wk = !(
    [[wa, wb, wk].any (fun w => decide (w.base < 1 ∨ 126 < w.base ∨ w.limit < 1 ∨ 126 < w.limit)),
     [wa, wb, wk].any (fun w => Window.holds w own),
     (List.range 127).any (fun a => (Window.holds wa a && Window.holds wb a) || (Window.holds wa a && Window.holds wk a)
        || (Window.holds wb a && Window.holds wk a))].any id) := by
  have bounds : [wa, wb, wk].any (fun w => decide (w.base < 1 ∨ 126 < w.base ∨ w.limit < 1 ∨ 126 < w.limit))
      = !(Window.boundsOk wa && Window.boundsOk wb && Window.boundsOk wk) := by
    simp only [boundsOk_eq, List.any_cons, List.any_nil, Bool.not_and, Bool.not_not, Bool.or_false, Bool.or_assoc]
  rw [bounds]
  cases hb : Window.boundsOk wa && Window.boundsOk wb && Window.boundsOk wk with
  | false => simp only [windowsOk, hb]; rfl
  | true =>
    have ha : Window.boundsOk wa = true ∧ Window.boundsOk wb = true := by
      simp only [Bool.and_eq_true] at hb
      exact hb.1
    rw [any_or, any_or, ← overlaps_eq ha.1, ← overlaps_eq ha.1, ← overlaps_eq ha.2]
    simp only [windowsOk, hb, List.any_cons, List.any_nil, id_eq, Bool.not_or, Bool.true_and, Bool.not_true,
      Bool.false_or, Bool.or_false, Bool.and_assoc]

/-- LOAD WINDOWS (R3). -/
theorem exec_loadWindows (q : Req) (wa wb wk : Window) (s : State) :
    exec (.loadWindows q wa wb wk) s = .next (checked q 0x83
    [(s.save.isSome, .busy),
     ([wa, wb, wk].any (fun w => decide (w.base < 1 ∨ 126 < w.base ∨ w.limit < 1 ∨ 126 < w.limit)), .outOfRange),
     ([wa, wb, wk].any (fun w => Window.holds w s.tables.ownAddress), .outOfRange),
     ((List.range 127).any (fun a => (Window.holds wa a && Window.holds wb a) || (Window.holds wa a && Window.holds wk a)
        || (Window.holds wb a && Window.holds wk a)), .outOfRange)]
    [] s { s with tables := { s.tables with
      ports := ⟨{ s.tables.ports.a with window := wa }, { s.tables.ports.b with window := wb },
       { s.tables.ports.k with window := wk }⟩ } }) := by
  refine manage_gated_stored (rule := loadWindowsRule wa wb wk) (bs := [_, _, _]) ?_
  rw [loadWindowsRule, windowsOk_eq, ite_not_accept]
  rfl

/-- SET PORT TIMING on a port (R15). -/
theorem exec_setPortTiming (q : Req) (p : Port) (reply recovery strict : Nat) (s : State) :
    exec (.setPortTiming q (portNum p) reply recovery strict) s = .next (checked q 0x85
      [(s.save.isSome, .busy), (decide (reply < 1 ∨ 50 < reply), .outOfRange),
       (decide (recovery < 100 ∨ 10000 < recovery), .outOfRange), (decide (1 < strict), .outOfRange),
       (decide (strict = 1 ∧ p = .k), .outOfRange)]
      [] s { s with tables := { s.tables with
        ports := s.tables.ports.set p { s.tables.ports.get p with
          replyTimeout := reply, recoveryTime := recovery, strictStop := strict == 1 } } }) := by
  refine manage_gated_stored (rule := setPortTimingRule (portNum p) reply recovery strict) (bs := [_, _, _, _]) ?_
  simp only [setPortTimingRule, portOf_num, boolOf_eq, timingOk, within_eq]
  by_cases hs : 1 < strict
  · simp [hs]
  · have strictK : (strict == 1 && p == .k) = decide (strict = 1 ∧ p = .k) := by
      rw [Bool.decide_and]
      rfl
    rw [if_neg hs]
    simp only [strictK, ← Bool.not_or, ite_not_accept]
    simp [hs, or_assoc]
    rfl

/-- SET PORT TIMING for a number that is no port. -/
theorem exec_setPortTiming_none (q : Req) {n : Nat} (reply recovery strict : Nat) (s : State) (h : n = 0 ∨ 3 < n) :
    exec (.setPortTiming q n reply recovery strict) s
      = .next (checked q 0x85 [(s.save.isSome, .busy), (true, .outOfRange)] [] s s) := by
  refine manage_gated_stored (rule := setPortTimingRule n reply recovery strict) (bs := [_]) ?_
  simp only [setPortTimingRule, portOf_none n h]
  rfl

/-! ## The filter's settings (R23, R27, R29, R38) -/

theorem conditionOf_eq (n : Nat) :
    conditionOf n = if 1 < n then none else some (if n = 0 then .always else .overKettle) := by
  match n with
  | 0 | 1 => rfl
  | n + 2 => rw [if_pos (by omega)]; rfl

theorem actionOf_eq (n : Nat) : actionOf n = if 1 < n then none else some (if n = 0 then .note else .block) := by
  match n with
  | 0 | 1 => rfl
  | n + 2 => rw [if_pos (by omega)]; rfl

/-- The entry of LOAD TRAP's fields as they are (R23, R27). -/
def loadedTrap (x : TrapArgs) : TrapEntry :=
  { enabled := x.enabled == 1, destValue := x.destValue, destMask := x.destMask, codeValue := x.codeValue
    codeMask := x.codeMask, firstValue := x.firstValue, firstMask := x.firstMask
    condition := if x.condition = 0 then .always else .overKettle
    action := if x.action = 0 then .note else .block }

/-- LOAD TRAP's fields give an entry where they are defined values in range (R23, R27). -/
theorem trapOf_eq (x : TrapArgs) : trapOf x = if 1 < x.enabled ∨ (127 < x.destValue.toNat ∨ 127 < x.destMask.toNat)
    ∨ 1 < x.condition ∨ 1 < x.action then none else some (loadedTrap x) := by
  unfold trapOf
  rw [boolOf_eq, conditionOf_eq, actionOf_eq]
  by_cases he : 1 < x.enabled
  · simp [he]
  by_cases hc : 1 < x.condition
  · simp [he, hc]
  by_cases ha : 1 < x.action
  · simp [he, hc, ha]
  simp only [he, hc, ha, if_false, TrapEntry.ok, Bool.and_eq_true, decide_eq_true_eq, false_or, or_false]
  by_cases hd : 127 < x.destValue.toNat ∨ 127 < x.destMask.toNat
  · rw [if_pos hd, if_neg (by omega)]
  · rw [if_neg hd, if_pos (by omega)]
    rfl

/-- LOAD TRAP (R27). -/
theorem exec_loadTrap (q : Req) (n : Nat) (x : TrapArgs) (s : State) :
    exec (.loadTrap q n x) s = .next (checked q 0x88
    [(s.save.isSome, .busy), (decide (n < 1 ∨ 8 < n), .outOfRange), (decide (1 < x.enabled), .outOfRange),
     (decide (127 < x.destValue.toNat ∨ 127 < x.destMask.toNat), .outOfRange),
     (decide (1 < x.condition ∨ 1 < x.action), .outOfRange)]
    [] s { s with
      tables := { s.tables with
        traps := s.tables.traps.setIfInBounds (n - 1)
          { enabled := x.enabled == 1, destValue := x.destValue, destMask := x.destMask, codeValue := x.codeValue
            codeMask := x.codeMask, firstValue := x.firstValue, firstMask := x.firstMask
            condition := if x.condition = 0 then .always else .overKettle
            action := if x.action = 0 then .note else .block } }
      trapHits := s.trapHits.setIfInBounds (n - 1) 0 }) := by
  refine manage_gated_stored (rule := loadTrapRule n x) (bs := [_, _, _, _]) ?_
  have checks : [decide (n < 1 ∨ 8 < n), decide (1 < x.enabled),
      decide (127 < x.destValue.toNat ∨ 127 < x.destMask.toNat), decide (1 < x.condition ∨ 1 < x.action)].any id
      = decide ((n < 1 ∨ 8 < n) ∨ 1 < x.enabled ∨ (127 < x.destValue.toNat ∨ 127 < x.destMask.toNat)
        ∨ 1 < x.condition ∨ 1 < x.action) := by
    simp only [List.any_cons, List.any_nil, id_eq, Bool.decide_or, Bool.or_false]
  rw [checks, loadTrapRule, within_eq, trapOf_eq]
  by_cases hn : n < 1 ∨ 8 < n
  · rw [decide_eq_true hn, decide_eq_true (.inl hn)]
    rfl
  · rw [decide_eq_false hn]
    by_cases hx : 1 < x.enabled ∨ (127 < x.destValue.toNat ∨ 127 < x.destMask.toNat) ∨ 1 < x.condition ∨ 1 < x.action
    · rw [if_pos hx, decide_eq_true (.inr hx)]
      rfl
    · rw [if_neg hx, decide_eq_false (not_or.2 ⟨hn, hx⟩)]
      rfl

/-- A hoist's station address is none or in range (R29). -/
theorem stationOf_all (n : Nat) : (stationOf n).all addressOk = !decide (126 < n) := by
  unfold stationOf addressOk
  by_cases h0 : n = 0
  · simp [h0]
  · rw [if_neg h0, Option.all_some, within_eq, decide_eq_decide.2 (or_iff_right (by omega))]

theorem HoistSettings.ok_eq (v : HoistSettings) : v.ok = (v.station.all addressOk && within 1 600 v.ratedUp
    && within 1 600 v.ratedDown && within 1 1500 v.ratedTravel && v.creep ≤ v.ratedUp
    && withinInt (-20000) 20000 v.offset && within 50 2500 v.commandTimeout && v.commandTimeout % 10 == 0) := by
  unfold HoistSettings.ok
  cases v.station <;> rfl

/-- The settings that LOAD HOIST SETTINGS gives are in order where no check of range fails (R29). -/
theorem hoistSettings_ok_eq (x : HoistArgs) : (hoistSettingsOf x).ok = !([decide (126 < x.station),
    decide (x.ratedUp < 1 ∨ 600 < x.ratedUp ∨ x.ratedDown < 1 ∨ 600 < x.ratedDown),
    decide (x.ratedTravel < 1 ∨ 1500 < x.ratedTravel ∨ x.ratedUp < x.creep),
    decide (x.offset < -20000 ∨ 20000 < x.offset),
    decide (x.commandTimeout < 50 ∨ 2500 < x.commandTimeout ∨ x.commandTimeout % 10 ≠ 0)].any id) := by
  rw [HoistSettings.ok_eq, hoistSettingsOf, stationOf_all, Bool.eq_iff_iff]
  simp [within, withinInt]
  omega

theorem settingsAllowed_eq (h : Hoist) (s : State) : settingsAllowed h s
    = !([decide ((s.contexts.get h).state ≠ .idle),
      decide ((s.motion.get h).applied.hoistSpeed ≠ 0 ∨ (s.motion.get h).applied.travelSpeed ≠ 0),
      decide ((s.ports.get h.port).state = .isolated)].any id) := by
  rw [Bool.eq_iff_iff]
  simp [settingsAllowed, and_assoc]

/-- LOAD HOIST SETTINGS (R29): out of range before not allowed (log 38). -/
theorem exec_loadHoistSettings (q : Req) (h : Hoist) (x : HoistArgs) (s : State) :
    exec (.loadHoistSettings q h.num x) s = .next (checked q 0x8A
    [(s.save.isSome, .busy), (decide (126 < x.station), .outOfRange),
     (decide (x.ratedUp < 1 ∨ 600 < x.ratedUp ∨ x.ratedDown < 1 ∨ 600 < x.ratedDown), .outOfRange),
     (decide (x.ratedTravel < 1 ∨ 1500 < x.ratedTravel ∨ x.ratedUp < x.creep), .outOfRange),
     (decide (x.offset < -20000 ∨ 20000 < x.offset), .outOfRange),
     (decide (x.commandTimeout < 50 ∨ 2500 < x.commandTimeout ∨ x.commandTimeout % 10 ≠ 0), .outOfRange),
     (decide ((s.contexts.get h).state ≠ .idle), .notAllowed),
     (decide ((s.motion.get h).applied.hoistSpeed ≠ 0 ∨ (s.motion.get h).applied.travelSpeed ≠ 0), .notAllowed),
     (decide ((s.ports.get h.port).state = .isolated), .notAllowed)]
    [] s { s with
      tables := { s.tables with
        hoists := s.tables.hoists.set h
          { station := if x.station = 0 then none else some x.station, ratedUp := x.ratedUp, ratedDown := x.ratedDown
            ratedTravel := x.ratedTravel, creep := x.creep, offset := x.offset, commandTimeout := x.commandTimeout } }
      motion := s.motion.set h { s.motion.get h with
        cap := min (s.motion.get h).cap (min x.ratedUp x.ratedDown) } }) := by
  refine manage_checked_stored q 0x8A (loadHoistSettingsRule h.num x) _ [] s _
    (gated (bs := [_, _, _, _, _]) (cs := [_, _, _]) ?_)
  simp only [loadHoistSettingsRule, hoistOf_num, hoistSettings_ok_eq, settingsAllowed_eq, Bool.not_not]
  rfl

/-- SET OPERATOR CAP (R38). -/
theorem exec_setOperatorCap (q : Req) (h : Hoist) (cap : Nat) (s : State) :
    exec (.setOperatorCap q h.num cap) s = .next (checked q 0x8B
    [(decide (min (s.tables.hoists.get h).ratedUp (s.tables.hoists.get h).ratedDown < cap), .outOfRange)]
    [] s { s with motion := s.motion.set h { s.motion.get h with cap } }) := by
  refine manage_gated (rule := setOperatorCapRule h.num cap) (bs := [_]) ?_
  simp only [setOperatorCapRule, hoistOf_num]
  by_cases hc : min (s.tables.hoists.get h).ratedUp (s.tables.hoists.get h).ratedDown < cap
  · rw [decide_eq_true hc]
    exact if_neg (Nat.not_le.2 hc)
  · rw [decide_eq_false hc]
    exact if_pos (Nat.not_lt.1 hc)

/-- Settles O24: the six requests, each by its own equation. -/
theorem linkAndFilterRequests : Obligations.LinkAndFilterRequests := by
  refine ⟨exec_setAddress, exec_loadWindows, exec_setPortTiming, fun q n reply recovery strict s hn =>
    exec_setPortTiming_none q reply recovery strict s hn, exec_loadTrap, exec_loadHoistSettings, exec_setOperatorCap,
    fun q n cap x s hn => ⟨?_, ?_⟩⟩
  · refine manage_gated_stored (rule := loadHoistSettingsRule n x) (bs := [_]) ?_
    simp only [loadHoistSettingsRule, hoistOf_none n hn]
    rfl
  · refine manage_refused q 0x8B (setOperatorCapRule n cap) .outOfRange s ?_
    simp only [setOperatorCapRule, hoistOf_none n hn]

end Sys2Proof.Machine
end

section
/-! The readings: which items each holds, and the page that answers it (R14, R28, R40, R59, R63, R67, R99, R109, R129,
R137, R143, R153, R168, R182, R183). -/

namespace Sys2Proof.Machine

/-! ## The page of a reading -/

theorem hoistsTagged_eq (f : TagArgs → Bool) (s : State) :
    hoistsTagged f s = [Hoist.h1, .h2].filter (fun h => (s.contexts.get h).tag.any f) := by
  have any (t : Option TagArgs) : (t.map f).getD false = t.any f := by cases t <;> rfl
  simp only [hoistsTagged, any]

theorem usesJig_eq (h : Hoist) (n : Nat) (s : State) : usesJig h n s = hoistUsesJig h n s := by
  simp only [usesJig, hoistUsesJig]
  cases (s.contexts.get h).tag <;> rfl

/-- A profile's number is 1 to 16. -/
theorem findProfile_within {n : Nat} {x : Profile} {s : State} (h : findProfile n s = some x) :
    within 1 16 n = true := by
  unfold findProfile at h
  split at h
  · cases h
  · next hn =>
    obtain ⟨hlt, -⟩ := Vector.getElem?_eq_some_iff.1 (Option.join_eq_some_iff.1 h)
    simp [within]
    omega

/-- The readings of a hoist (R59, R99). -/
theorem exec_hoistReadings (q : Req) (h : Hoist) (page : Nat) (s : State) :
    exec (.readWeight q h.num page) s = .next (paged q 0x93 page (weightItems h s) s s)
    ∧ exec (.readContext q h.num page) s = .next (paged q 0xA6 page (contextItems h s) s s) := by
  refine ⟨manage_paged q 0x93 (readWeightRule h.num page) page _ s s ?_,
    manage_paged q 0xA6 (readContextRule h.num page) page _ s s ?_⟩
  · simp only [readWeightRule, hoistOf_num]
    rfl
  · simp only [readContextRule, hoistOf_num]
    rfl

theorem exec_hoistReadings_none (q : Req) {n : Nat} (page : Nat) (s : State) (h : n = 0 ∨ 2 < n) :
    exec (.readWeight q n page) s = .next (answered q 0x93 .outOfRange [] s s)
    ∧ exec (.readContext q n page) s = .next (answered q 0xA6 .outOfRange [] s s) := by
  refine ⟨manage_refused q 0x93 (readWeightRule n page) .outOfRange s ?_,
    manage_refused q 0xA6 (readContextRule n page) .outOfRange s ?_⟩
  · simp only [readWeightRule, hoistOf_none n h]
  · simp only [readContextRule, hoistOf_none n h]

/-- READ TRAP (R28). -/
theorem exec_readTrap (q : Req) {n c : Nat} {e : TrapEntry} (page : Nat) (s : State)
    (he : s.tables.traps[n - 1]? = some e) (hc : s.trapHits[n - 1]? = some c) (hn : 1 ≤ n) :
    exec (.readTrap q n page) s = .next (paged q 0x89 page (trapItems e c) s s) := by
  refine manage_paged q 0x89 (readTrapRule n page) page _ s s ?_
  obtain ⟨hlt, -⟩ := Vector.getElem?_eq_some_iff.1 he
  have hw : within 1 8 n = true := by simp [within]; omega
  simp only [readTrapRule, hw, State.begin_tables, State.begin_trapHits, he, hc]
  rfl

theorem exec_readTrap_none (q : Req) {n : Nat} (page : Nat) (s : State) (h : n = 0 ∨ 8 < n) :
    exec (.readTrap q n page) s = .next (answered q 0x89 .outOfRange [] s s) := by
  refine manage_refused q 0x89 (readTrapRule n page) .outOfRange s ?_
  have hw : within 1 8 n = false := by simp [within]; omega
  simp only [readTrapRule, hw]

/-- READ PROFILE (R63). -/
theorem exec_readProfile (q : Req) {n : Nat} {x : Profile} (page : Nat) (s : State) (h : findProfile n s = some x) :
    exec (.readProfile q n page) s = .next (paged q 0x9A page
      (profileItems x ++ [hoistsItem ([Hoist.h1, .h2].filter (fun h =>
        (s.contexts.get h).tag.any (fun t => t.profile == n)))]) s s) := by
  refine manage_paged q 0x9A (readProfileRule n page) page _ s s ?_
  have found : findProfile n s.begin = some x := h
  simp only [readProfileRule, findProfile_within h, found, profileUsers, hoistsTagged_eq, Bool.not_true,
    Bool.false_eq_true, if_false, State.begin_contexts]

theorem exec_readProfile_notFound (q : Req) {n : Nat} (page : Nat) (s : State) (h1 : 1 ≤ n) (h2 : n ≤ 16)
    (h : findProfile n s = none) : exec (.readProfile q n page) s = .next (answered q 0x9A .notFound [] s s) := by
  refine manage_refused q 0x9A (readProfileRule n page) .notFound s ?_
  have hw : within 1 16 n = true := by simp [within, h1, h2]
  have found : findProfile n s.begin = none := h
  simp only [readProfileRule, hw, found]
  rfl

theorem exec_readProfile_none (q : Req) {n : Nat} (page : Nat) (s : State) (h : n = 0 ∨ 16 < n) :
    exec (.readProfile q n page) s = .next (answered q 0x9A .outOfRange [] s s) := by
  refine manage_refused q 0x9A (readProfileRule n page) .outOfRange s ?_
  have hw : within 1 16 n = false := by simp [within]; omega
  simp only [readProfileRule, hw]
  rfl

/-- READ JIG (R67). -/
theorem exec_readJig (q : Req) {n : Nat} (page : Nat) (s : State) :
    (∀ j, findJig n s = some j → exec (.readJig q n page) s = .next (paged q 0xA0 page (jigItems j s) s s))
    ∧ (findJig n s = none → exec (.readJig q n page) s = .next (answered q 0xA0 .notFound [] s s)) := by
  refine ⟨fun j h => manage_paged q 0xA0 (readJigRule n page) page _ s s ?_,
    fun h => manage_refused q 0xA0 (readJigRule n page) .notFound s ?_⟩
  · have found : findJig n s.begin = some j := h
    simp only [readJigRule, found]
    rfl
  · have found : findJig n s.begin = none := h
    simp only [readJigRule, found]

/-- READ JOB (R137). -/
theorem exec_readJob (q : Req) {n : Nat} (page : Nat) (s : State) :
    (∀ j, findJob n s = some j → exec (.readJob q n page) s = .next (paged q 0xB5 page (jobItems j s) s s))
    ∧ (findJob n s = none → exec (.readJob q n page) s = .next (answered q 0xB5 .notFound [] s s)) := by
  refine ⟨fun j h => manage_paged q 0xB5 (readJobRule n page) page _ s s ?_,
    fun h => manage_refused q 0xB5 (readJobRule n page) .notFound s ?_⟩
  · have found : findJob n s.begin = some j := h
    simp only [readJobRule, found]
    rfl
  · have found : findJob n s.begin = none := h
    simp only [readJobRule, found]

/-- READ PORT STATUS: the error flags of an OPEN port are cleared after the page is taken (R14). -/
theorem exec_readPortStatus (q : Req) (p : Port) (page : Nat) (s : State) :
    exec (.readPortStatus q (portNum p) page) s = .next (paged q 0x84 page (portItems p s) s { s with
      ports := if (s.ports.get p).state = .opened then s.ports.set p { s.ports.get p with
          errDamaged := false, errStray := false, errTimeout := false }
        else s.ports }) := by
  refine manage_paged q 0x84 (readPortStatusRule (portNum p) page) page _ s _ ?_
  simp only [readPortStatusRule, portOf_num, State.begin_ports]
  by_cases ho : (s.ports.get p).state = .opened
  · simp only [ho, if_true]
    rfl
  · simp only [ho, if_false]
    rfl

theorem exec_readPortStatus_none (q : Req) {n : Nat} (page : Nat) (s : State) (h : n = 0 ∨ 3 < n) :
    exec (.readPortStatus q n page) s = .next (answered q 0x84 .outOfRange [] s s) := by
  refine manage_refused q 0x84 (readPortStatusRule n page) .outOfRange s ?_
  simp only [readPortStatusRule, portOf_none n h]

/-- Settles O48: each reading by its own equation. -/
theorem readingsAnswerTheirPage : Obligations.ReadingsAnswerTheirPage := by
  refine ⟨fun q page s => ⟨?_, ?_, ?_, ?_, ?_⟩, exec_hoistReadings,
    fun q n page s h => exec_hoistReadings_none q page s h,
    fun q n page s => ⟨fun e c he hc hn => exec_readTrap q page s he hc hn, fun h => exec_readTrap_none q page s h⟩,
    fun q n page s => ⟨fun x h => exec_readProfile q page s h,
      fun h1 h2 h => exec_readProfile_notFound q page s h1 h2 h, fun h => exec_readProfile_none q page s h⟩,
    fun q n page s => ⟨(exec_readJig q page s).1, (exec_readJig q page s).2, exec_readJob q page s⟩,
    fun q page s => manage_paged q 0x80 (readStatusRule page) page _ s { s with upstreamDamaged := false } rfl,
    exec_readPortStatus, fun q n page s h => exec_readPortStatus_none q page s h⟩
  · exact manage_paged q 0x8C (readMotionRule page) page _ s s rfl
  · exact manage_paged q 0xAB (readZonesRule page) page _ s s rfl
  · exact manage_paged q 0xAD (readBathRule page) page _ s s rfl
  · exact manage_paged q 0xBB (readBalanceRule page) page _ s s rfl
  · exact manage_paged q 0xBE (readQueueRule page) page _ s s rfl

end Sys2Proof.Machine
end

section
/-! The items of each reading in the forms of R182 and R183: what the model's own names for them say. -/

namespace Sys2Proof.Machine

/-! ## Single items -/

theorem restartCauseNum_eq (c : RestartCause) : restartCauseNum c = if c = .powerOn then 0 else 1 := by
  cases c <;> rfl

theorem StoreState.num_eq (st : StoreState) : StoreState.num st = if st = .good then 0 else 1 := by
  cases st <;> rfl

theorem TrapCondition.num_eq (c : TrapCondition) : TrapCondition.num c = if c = .always then 0 else 1 := by
  cases c <;> rfl

theorem TrapAction.num_eq (a : TrapAction) : TrapAction.num a = if a = .note then 0 else 1 := by
  cases a <;> rfl

theorem slotBytes_eq :
    slotBytes = fun sl => [if sl.origin = .generated then 1 else 0, sl.dest, sl.seq, sl.code] := by
  funext sl
  unfold slotBytes
  cases sl.origin <;> rfl

theorem GenRequest.code_eq (g : GenRequest) : GenRequest.code g = if g = .poll then 0x50 else 0x31 := by
  cases g <;> rfl

theorem conditionNum_eq (h : Hoist) (s : State) : conditionNum h s = if s.tables.calibration.get h = none then 0
    else if (s.channels.get h).filtered = none then 1 else 2 := by
  simp only [conditionNum, Option.isNone_iff_eq_none]

theorem Figure.fresh_eq (f : Figure) (now : Nat) : Figure.fresh f now = f.deadline.any (fun d => now ≤ d) := by
  unfold Figure.fresh
  cases f.deadline <;> rfl

theorem dwellElapsed_eq (c : Context) (s : State) : dwellElapsed c s = c.dwellDeadline.any (fun d => d ≤ s.now) := by
  unfold dwellElapsed due
  cases c.dwellDeadline <;> rfl

theorem tareSet_eq (j : JigWeigh) :
    JigWeigh.tareSet j = if j.result = .done ∨ j.result = .tareClamped then some j.tare else none := by
  unfold JigWeigh.tareSet
  cases j.result <;> simp

/-- A context's dip flags in the bits of a record's (log 28). -/
theorem flagBits_dip (f : DipFlags) : flagBits f false false false = (if f.shortImmersion then 1 else 0)
    + (if f.reImmersed then 2 else 0) + (if f.float then 4 else 0) + (if f.grounded then 8 else 0)
    + (if f.noSteel then 128 else 0) + (if f.overloadSeen then 256 else 0) + (if f.noContact then 512 else 0) := by
  have one (b : Bool) : bit b = if b then 1 else 0 := by cases b <;> rfl
  simp [flagBits, one]

/-- The holders of the reserved places (R153). -/
theorem reservationHolders_eq (s : State) : reservationHolders s
    = (if s.contexts.h1.reserved ∧ s.contexts.h2.reserved then
        (if s.contexts.h1.pair = .paired ∧ s.contexts.h2.pair = .paired then [3] else [1, 2])
      else if s.contexts.h1.reserved then [1] else if s.contexts.h2.reserved then [2] else []) := by
  unfold reservationHolders
  cases s.contexts.h1.reserved <;> cases s.contexts.h2.reserved <;> simp

/-- As many places are reserved as there are holders. -/
theorem reservedPlaces_eq (s : State) : reservedPlaces s = (reservationHolders s).length := by
  unfold reservedPlaces reservationHolders
  cases s.contexts.h1.reserved <;> cases s.contexts.h2.reserved <;> simp
  split <;> rfl

theorem jigUsers_eq (n : Nat) (s : State) : jigUsers n s = [Hoist.h1, .h2].filter (fun h => hoistUsesJig h n s) := by
  simp only [jigUsers, usesJig_eq]

/-! ## The readings -/

/-- Settles O49: each item's form is named above, and the enumerations are computed. -/
theorem readingsHoldTheItemsOfTheirRules : Obligations.ReadingsHoldTheItemsOfTheirRules := by
  intro flag num left stamp mass hold quiet dif s hflag hnum hleft hstamp hmass hhold hquiet hdif
  obtain rfl : flag = flagItem := funext fun b => by rw [hflag, flagItem_eq]
  obtain rfl : num = beBytes 1 := funext hnum
  obtain rfl : left = timerItem := by
    funext now d
    rw [hleft, timerItem, optItem_eq]
  obtain rfl : stamp = stampItem := funext fun d => by rw [hstamp, stampItem, optItem_eq]
  obtain rfl : mass = optItem 3 (beInt 3) := funext fun x => by rw [hmass, optItem_eq]
  obtain rfl : hold = holdItem s.bath.hold := by rw [hhold, holdItem, optItem_eq]
  obtain rfl : quiet = quietItem s.now s.bath.quiet := by rw [hquiet, quietItem, optItem_eq]
  obtain rfl : dif = differenceItem s.bath.quiet := by rw [hdif, differenceItem, optItem_eq]
  refine ⟨?_, ?_, ?_, ?_, ?_, fun x => rfl, fun j => ⟨jigUsers j.id s, rfl, jigUsers_eq _ _⟩,
    fun j => ⟨jobUsers j.number s, rfl, hoistsTagged_eq _ _⟩, ?_, ?_, ?_, ?_, ?_,
    rfl, rfl, rfl, rfl, rfl, rfl, rfl, rfl, rfl, rfl, rfl, rfl, rfl⟩
  · simp only [statusItems, restartCauseNum_eq, StoreState.num_eq]
  · rintro p u x rfl rfl
    simp only [portItems, optItem_eq, slotBytes_eq, GenRequest.code_eq]
    cases (s.ports.get p).recovery <;> rfl
  · intro e hits
    simp only [trapItems, TrapCondition.num_eq, TrapAction.num_eq]
  · rintro h m x rfl rfl
    rfl
  · rintro h c cal rfl rfl
    simp only [weightItems, conditionNum_eq, optItem_eq]
    rfl
  · rintro h c rfl
    simp only [contextItems, flagBits_dip, optItem_eq, dwellItem, dwellElapsed_eq, tareSet_eq, surface, Option.map_map,
      apply_ite (Option.map (beBytes 3)), Option.map_some, Option.map_none]
    rfl
  · rintro m zone rfl hzone
    obtain rfl : zone = fun z => zoneItems (s.tables.zoneMap.zones.get z) := funext hzone
    simp only [arbiterItems, optItem_eq]
    rfl
  · rintro x fig rfl hfig
    obtain rfl : fig = figureItem s.now := funext fun f => by simp only [hfig, figureItem, optItem_eq, Figure.fresh_eq]
    rfl
  · rintro b rfl
    rfl
  · exact ⟨reservationHolders s, by simp only [queueItems, optItem_eq]; rfl, reservationHolders_eq s,
      reservedPlaces_eq s⟩

end Sys2Proof.Machine
end

section
/-! The trap table: the entry that decides a request (R24 to R26). -/

namespace Sys2Proof.Machine

theorem maskedEq_iff (x value mask : Byte) : maskedEq x value mask = true ↔ x &&& mask = value &&& mask := by
  rw [maskedEq, beq_iff_eq]

/-- The trap table is searched by place. -/
theorem firstTrap_eq (port : Option Port) (f : Frame) (s : State) (es : List TrapEntry) (k : Nat) :
    firstTrap port f s es k
      = ((es.zipIdx k).find? (fun x => x.1.decides port f s)).map (fun x => (x.2, x.1.action)) := by
  induction es generalizing k with
  | nil => rfl
  | cons e es ih =>
    rw [firstTrap, List.zipIdx_cons, List.find?_cons, ih]
    cases e.decides port f s <;> rfl

/-- The entry that decides a request, and those before it that do not (R26). -/
theorem firstTrap_eq_some_iff (port : Option Port) (f : Frame) (s : State) (es : List TrapEntry) (i : Nat)
    (act : TrapAction) : firstTrap port f s es 0 = some (i, act) ↔
      ∃ e, es[i]? = some e ∧ act = e.action ∧ e.decides port f s = true
        ∧ ∀ (j : Nat) (x : TrapEntry), j < i → es[j]? = some x → x.decides port f s = false := by
  simp only [firstTrap_eq, Option.map_eq_some_iff, List.find?_eq_some_iff_getElem]
  constructor
  · rintro ⟨⟨e, n⟩, ⟨hd, m, hm, hx, hlow⟩, hp⟩
    simp only [List.getElem_zipIdx, Prod.mk.injEq, Nat.zero_add] at hx hp
    obtain ⟨rfl, rfl⟩ := hx
    obtain ⟨rfl, rfl⟩ := hp
    refine ⟨_, List.getElem?_eq_getElem _, rfl, hd, fun j x hj hx => ?_⟩
    obtain ⟨_, rfl⟩ := List.getElem?_eq_some_iff.1 hx
    simpa using hlow j hj
  · rintro ⟨e, he, rfl, hd, hlow⟩
    obtain ⟨hi, rfl⟩ := List.getElem?_eq_some_iff.1 he
    refine ⟨(_, i), ⟨hd, i, by simpa using hi, by simp, fun j hj => ?_⟩, rfl⟩
    simpa using hlow j _ hj (List.getElem?_eq_getElem (by omega))

theorem trapMatch_eq_some_iff (port : Option Port) (f : Frame) (s : State) (i : Nat) (act : TrapAction) :
    trapMatch port f s = some (i, act) ↔ ∃ e, s.tables.traps[i]? = some e ∧ act = e.action
      ∧ e.decides port f s = true
      ∧ ∀ (j : Nat) (x : TrapEntry), j < i → s.tables.traps[j]? = some x → x.decides port f s = false := by
  simp only [← Vector.getElem?_toList]
  exact firstTrap_eq_some_iff port f s _ i act

theorem fieldsMatch_iff (e : TrapEntry) (dest code : Byte) (payload : List Byte) :
    e.fieldsMatch dest code payload = true ↔ dest &&& e.destMask = e.destValue &&& e.destMask
      ∧ code &&& e.codeMask = e.codeValue &&& e.codeMask
      ∧ (e.firstMask = 0 ∨ ∃ b rest, payload = b :: rest ∧ b &&& e.firstMask = e.firstValue &&& e.firstMask) := by
  rw [TrapEntry.fieldsMatch, Bool.and_eq_true, Bool.and_eq_true, maskedEq_iff, maskedEq_iff, and_assoc]
  cases payload with
  | nil => simp
  | cons b rest =>
    have zero : e.firstMask = 0 → b &&& e.firstMask = e.firstValue &&& e.firstMask := fun h => by simp [h]
    simpa [maskedEq_iff] using fun _ _ => zero

theorem overKettleHolds_iff (port : Option Port) (dest : Byte) (s : State) : overKettleHolds port dest s = true ↔
    ∃ h : Hoist, port = some h.port ∧ (s.tables.hoists.get h).station = some dest.toNat
      ∧ (s.contexts.get h).state ∈ [.lowering, .entering, .immersed, .withdrawing, .draining, .abandoned] := by
  have stateIn : ∀ st : DipState, (st.overKettle || st == .abandoned) = true ↔
      st ∈ [.lowering, .entering, .immersed, .withdrawing, .draining, .abandoned] := by
    intro st
    cases st <;> decide
  constructor
  · intro ho
    rw [overKettleHolds] at ho
    split at ho
    · next h hh =>
      obtain ⟨p, rfl, hp⟩ := Option.bind_eq_some_iff.1 hh
      rw [Bool.and_eq_true, isStation_iff, stateIn] at ho
      exact ⟨h, by rw [port_of_hoist hp], ho⟩
    · exact nomatch ho
  · rintro ⟨h, rfl, hs, hc⟩
    simp only [overKettleHolds, Option.bind_some, Hoist.hoist_port, Bool.and_eq_true]
    exact ⟨(isStation_iff _ _).2 hs, (stateIn _).2 hc⟩

/-- Settles O16: the search by place, and then an entry's three masked fields and its condition. -/
theorem firstMatchingTrapDecides : Obligations.FirstMatchingTrapDecides := by
  refine ⟨trapMatch_eq_some_iff, fun port f s e => ?_⟩
  rw [TrapEntry.decides, Bool.and_eq_true, Bool.and_eq_true, fieldsMatch_iff]
  cases e.condition with
  | always => simp
  | overKettle => simp only [overKettleHolds_iff, and_assoc, true_imp_iff]

end Sys2Proof.Machine
end

section
/-! Motion limiting: the least of a requested speed and the limits of the sources, and the limit that governs
(R32 to R35). -/

namespace Sys2Proof.Machine

/-! ## Motion axes (R32 to R35) -/

/-- The limits that the sources give by `lim`, in tie order (R32). -/
def givenLimits (lim : LimitSource → Option Nat) : List (LimitSource × Nat) :=
  LimitSource.all.filterMap (fun src => (lim src).map (fun l => (src, l)))

theorem travelLimits_eq (h : Hoist) (s : State) :
    travelLimits h s = givenLimits (fun src => (limitsOf src h s).travel) := rfl

theorem hoistLimits_eq (d : HoistDir) (h : Hoist) (s : State) :
    hoistLimits d h s = givenLimits (fun src => limitIn d (limitsOf src h s)) := by
  cases d <;> rfl

theorem mem_givenLimits {lim : LimitSource → Option Nat} {src : LimitSource} {l : Nat} :
    (src, l) ∈ givenLimits lim ↔ lim src = some l := by
  have every : src ∈ LimitSource.all := by cases src <;> decide
  simp only [givenLimits, List.mem_filterMap, Option.map_eq_some_iff, Prod.mk.injEq]
  exact ⟨fun ⟨_, _, _, hl, rfl, rfl⟩ => hl, fun hl => ⟨src, every, l, hl, rfl, rfl⟩⟩

/-- The tie order is that of the sources' numbers (R32, R40). -/
theorem givenLimits_inOrder (lim : LimitSource → Option Nat) :
    (givenLimits lim).Pairwise (fun x y => governingNum (some x.1) < governingNum (some y.1)) := by
  have order : LimitSource.all.Pairwise (fun x y => governingNum (some x) < governingNum (some y)) := by decide
  refine List.Pairwise.filterMap _ (fun x y hxy a ha b hb => ?_) order
  obtain ⟨_, _, rfl⟩ := Option.map_eq_some_iff.1 ha
  obtain ⟨_, _, rfl⟩ := Option.map_eq_some_iff.1 hb
  exact hxy

theorem composeLimits_append (n : Nat) (ls : List (LimitSource × Nat)) (l : LimitSource × Nat) :
    composeLimits n (ls ++ [l])
      = if l.2 < (composeLimits n ls).1 then (l.2, some l.1) else composeLimits n ls := by
  rw [composeLimits, List.foldl_append]
  rfl

/-- No limit is below the composed speed (R33). -/
theorem composeLimits_le (n : Nat) (ls : List (LimitSource × Nat)) : ∀ x ∈ ls, (composeLimits n ls).1 ≤ x.2 := by
  induction ls using List.reverseRecOn with
  | nil => simp
  | append_singleton ls l ih =>
    intro x hx
    rw [composeLimits_append]
    rcases List.mem_append.1 hx with hx | hx
    · have hle := ih x hx
      split <;> omega
    · obtain rfl := List.mem_singleton.1 hx
      split <;> omega

/-- The composed speed is the requested one with no governing limit, or a lesser limit of the source that governs, below
every limit before that source in the tie order (R33, R34). -/
theorem composeLimits_cases (n : Nat) {ls : List (LimitSource × Nat)}
    (ho : ls.Pairwise (fun x y => governingNum (some x.1) < governingNum (some y.1))) :
    composeLimits n ls = (n, none) ∨ ∃ src l, composeLimits n ls = (l, some src) ∧ l < n ∧ (src, l) ∈ ls
      ∧ ∀ x ∈ ls, governingNum (some x.1) < governingNum (some src) → l < x.2 := by
  induction ls using List.reverseRecOn with
  | nil => exact .inl rfl
  | append_singleton ls y ih =>
    obtain ⟨hls, _, hy⟩ := List.pairwise_append.1 ho
    have ih := ih hls
    rw [composeLimits_append]
    by_cases hlt : y.2 < (composeLimits n ls).1
    · rw [if_pos hlt]
      refine .inr ⟨y.1, y.2, rfl, ?_, by simp, fun x hx hn => ?_⟩
      · rcases ih with e | ⟨src, l, e, hl, _⟩ <;> simp only [e] at hlt <;> omega
      · rcases List.mem_append.1 hx with hx | hx
        · have := composeLimits_le n ls x hx
          omega
        · obtain rfl := List.mem_singleton.1 hx
          omega
    · rw [if_neg hlt]
      rcases ih with e | ⟨src, l, e, hl, hm, hmin⟩
      · exact .inl e
      · refine .inr ⟨src, l, e, hl, List.mem_append_left _ hm, fun x hx hn => ?_⟩
        rcases List.mem_append.1 hx with hx | hx
        · exact hmin x hx hn
        · obtain rfl := List.mem_singleton.1 hx
          exact absurd (hy _ hm _ (List.mem_singleton_self _)) (Nat.lt_asymm hn)

/-- What composition makes of one axis's requested speed `n` and the limits that the sources give it: speed and
governing limit (R33, R34). -/
structure LeastOf (n : Nat) (lim : LimitSource → Option Nat) (r : Nat × Option LimitSource) : Prop where
  le_limit : ∀ src l, lim src = some l → r.1 ≤ l
  origin : r = (n, none) ∨ ∃ src, r.2 = some src ∧ lim src = some r.1 ∧ r.1 < n
    ∧ ∀ src' l', lim src' = some l' → governingNum (some src') < governingNum (some src) → r.1 < l'

theorem leastOf_composeLimits (n : Nat) (lim : LimitSource → Option Nat) :
    LeastOf n lim (composeLimits n (givenLimits lim)) where
  le_limit src l hl := composeLimits_le n _ _ (mem_givenLimits.2 hl)
  origin := by
    rcases composeLimits_cases n (givenLimits_inOrder lim) with e | ⟨src, l, e, hl, hm, hmin⟩
    · exact .inl e
    · rw [e]
      exact .inr ⟨src, rfl, mem_givenLimits.1 hm, hl, fun _ _ hl' => hmin _ (mem_givenLimits.2 hl')⟩

section
variable {n : Nat} {lim : LimitSource → Option Nat} {r : Nat × Option LimitSource}

theorem LeastOf.least (h : LeastOf n lim r) : r.1 ≤ n ∧ (∀ src l, lim src = some l → r.1 ≤ l)
    ∧ (r.1 = n ∨ ∃ src, lim src = some r.1) := by
  rcases h.origin with e | ⟨src, _, hl, hlt, _⟩
  · have e1 : r.1 = n := congrArg Prod.fst e
    exact ⟨e1.le, h.le_limit, .inl e1⟩
  · exact ⟨hlt.le, h.le_limit, .inr ⟨src, hl⟩⟩

theorem LeastOf.governed_iff (h : LeastOf n lim r) : r.2 ≠ none ↔ r.1 < n := by
  rcases h.origin with rfl | ⟨src, e, _, hlt, _⟩
  · simp
  · simp [e, hlt]

theorem LeastOf.none_iff (h : LeastOf n lim r) : r.2 = none ↔ ∀ src l, lim src = some l → n ≤ l := by
  rcases h.origin with rfl | ⟨src, e, hl, hlt, _⟩
  · exact iff_of_true rfl h.le_limit
  · exact iff_of_false (by simp [e]) fun hn => absurd (hn src _ hl) (by omega)

theorem LeastOf.governs (h : LeastOf n lim r) {src : LimitSource} (hg : r.2 = some src) : ∃ l, lim src = some l ∧ l < n
    ∧ ∀ src' l', lim src' = some l' →
      l ≤ l' ∧ (governingNum (some src') < governingNum (some src) → l < l') := by
  rcases h.origin with rfl | ⟨src', e, hl, hlt, hmin⟩
  · exact nomatch hg
  · obtain rfl : src' = src := Option.some_inj.1 (e.symm.trans hg)
    exact ⟨r.1, hl, hlt, fun x l' hl' => ⟨h.le_limit x l' hl', hmin x l' hl'⟩⟩

end

theorem hoistAxis_stop {v : MotionValues} (h : Hoist) (s : State) (hv : v.hoistDir = .stop) :
    hoistAxis v h s = (0, none) := by
  simp only [hoistAxis, hv]

theorem travelAxis_stop {v : MotionValues} (h : Hoist) (s : State) (hv : v.travelDir = .stop) :
    travelAxis v h s = (0, none) := by
  simp only [travelAxis, hv]

theorem hoistAxis_moving {v : MotionValues} (h : Hoist) (s : State) (hv : v.hoistDir ≠ .stop) : hoistAxis v h s
    = composeLimits v.hoistSpeed (givenLimits (fun src => limitIn v.hoistDir (limitsOf src h s))) := by
  rw [← hoistLimits_eq]
  cases hd : v.hoistDir with
  | stop => exact absurd hd hv
  | up => simp only [hoistAxis, hd]
  | down => simp only [hoistAxis, hd]

theorem travelAxis_moving {v : MotionValues} (h : Hoist) (s : State) (hv : v.travelDir ≠ .stop) : travelAxis v h s
    = composeLimits v.travelSpeed (givenLimits (fun src => (limitsOf src h s).travel)) := by
  rw [← travelLimits_eq]
  cases hd : v.travelDir with
  | stop => exact absurd hd hv
  | fore => simp only [travelAxis, hd]
  | aft => simp only [travelAxis, hd]

theorem hoistAxis_least {v : MotionValues} (h : Hoist) (s : State) (hv : v.hoistDir ≠ .stop) :
    LeastOf v.hoistSpeed (fun src => limitIn v.hoistDir (limitsOf src h s)) (hoistAxis v h s) := by
  rw [hoistAxis_moving h s hv]
  exact leastOf_composeLimits _ _

theorem travelAxis_least {v : MotionValues} (h : Hoist) (s : State) (hv : v.travelDir ≠ .stop) :
    LeastOf v.travelSpeed (fun src => (limitsOf src h s).travel) (travelAxis v h s) := by
  rw [travelAxis_moving h s hv]
  exact leastOf_composeLimits _ _

/-- A requested STOP has speed 0 (R30, R31). -/
theorem motionRequest_stop {p : List Byte} {v : MotionValues} (h : (motionRequest p).getD .stopped = v) :
    (v.hoistDir = .stop → v.hoistSpeed = 0) ∧ (v.travelDir = .stop → v.travelSpeed = 0) := by
  subst h
  unfold motionRequest
  split
  · split
    · exact ⟨fun hd => if_pos hd, fun hd => if_pos hd⟩
    · exact ⟨fun _ => rfl, fun _ => rfl⟩
  · exact ⟨fun _ => rfl, fun _ => rfl⟩

theorem hoistAxis_governed_iff {v : MotionValues} (h : Hoist) (s : State)
    (hv : v.hoistDir = .stop → v.hoistSpeed = 0) : (hoistAxis v h s).2 ≠ none ↔ (hoistAxis v h s).1 < v.hoistSpeed := by
  by_cases hd : v.hoistDir = .stop
  · simp [hoistAxis_stop h s hd, hv hd]
  · exact (hoistAxis_least h s hd).governed_iff

theorem travelAxis_governed_iff {v : MotionValues} (h : Hoist) (s : State)
    (hv : v.travelDir = .stop → v.travelSpeed = 0) :
    (travelAxis v h s).2 ≠ none ↔ (travelAxis v h s).1 < v.travelSpeed := by
  by_cases hd : v.travelDir = .stop
  · simp [travelAxis_stop h s hd, hv hd]
  · exact (travelAxis_least h s hd).governed_iff

/-- Settles O51: a STOP apart, each axis is composed of its limits in tie order. -/
theorem appliedSpeedsAreTheLeast : Obligations.AppliedSpeedsAreTheLeast := by
  refine ⟨?_, fun v h s => ⟨?_, fun src hg => ?_, ?_, fun src hg => ?_⟩, fun p h s => ?_⟩
  · rintro v _ h s rfl
    exact ⟨fun hd => congrArg Prod.fst (hoistAxis_stop h s hd), fun hd => congrArg Prod.fst (travelAxis_stop h s hd),
      fun hd => (hoistAxis_least h s hd).least, fun hd => (travelAxis_least h s hd).least, rfl, rfl⟩
  · by_cases hd : v.hoistDir = .stop
    · simp [hoistAxis_stop h s hd, hd]
    · rw [(hoistAxis_least h s hd).none_iff, or_iff_right hd]
  · by_cases hd : v.hoistDir = .stop
    · rw [hoistAxis_stop h s hd] at hg
      exact nomatch hg
    · exact (hoistAxis_least h s hd).governs hg
  · by_cases hd : v.travelDir = .stop
    · simp [travelAxis_stop h s hd, hd]
    · rw [(travelAxis_least h s hd).none_iff, or_iff_right hd]
  · by_cases hd : v.travelDir = .stop
    · rw [travelAxis_stop h s hd] at hg
      exact nomatch hg
    · exact (travelAxis_least h s hd).governs hg
  · obtain ⟨hs, ts⟩ := motionRequest_stop (p := p) rfl
    rw [Limited.reduced, Bool.or_eq_true, decide_eq_true_iff, decide_eq_true_iff]
    exact (or_congr (hoistAxis_governed_iff h s hs) (travelAxis_governed_iff h s ts)).symm

end Sys2Proof.Machine
end

section
/-! The limits that each of the eleven sources gives (R37 to R39, R55, R86, R87, R96 to R98, R108, R117, R127). -/

namespace Sys2Proof.Machine

theorem faultLimit_eq (h : Hoist) (s : State) : faultLimit h s
    = if (s.ports.get h.port).state = .faulted ∨ (s.ports.get h.port).state = .isolated
      then ⟨some 0, some 0, some 0⟩ else ⟨none, none, none⟩ := by
  rw [faultLimit]
  cases (s.ports.get h.port).state <;> rfl

/-- BATH stops the down direction in three states, under a hold, at the approach height or below it (R127). -/
theorem bathLimit_eq (h : Hoist) (s : State) : bathLimit h s
    = if s.bath.hold.isSome ∧ (s.contexts.get h).state ∈ [.ready, .waitingZone, .lowering]
        ∧ (dipBottom h s).any (fun b : Int => decide (b ≤ approachHeight s))
      then .noDown else .free := by
  rw [bathLimit]
  cases dipBottom h s with
  | none => cases (s.contexts.get h).state <;> simp
  | some b => cases (s.contexts.get h).state <;> simp

theorem drossLimit_eq {h : Hoist} {s : State} {t : TagArgs} {b x : Int} (ht : (s.contexts.get h).tag = some t)
    (hb : dipBottom h s = some b) (hx : highestDross t.firstZone t.lastZone s.tables.zoneMap = some x) :
    drossLimit h s = if b ≤ x + s.tables.zoneMap.clearance then .noDown else .free := by
  simp only [drossLimit, ht, hb, hx]

theorem drossLimit_free {h : Hoist} {s : State} (hn : (s.contexts.get h).tag = none ∨ dipBottom h s = none) :
    drossLimit h s = .free := by
  rw [drossLimit]
  rcases hn with hn | hn
  · rw [hn]
  · rw [hn]
    cases (s.contexts.get h).tag <;> rfl

theorem tiltLimit_eq {h : Hoist} {s : State} {m o : Int} (h1 : s.contexts.h1.pair = .paired)
    (h2 : s.contexts.h2.pair = .paired) (hm : hookHeight h s = some m) (ho : hookHeight h.other s = some o) :
    tiltLimit h s = if m + s.tables.zoneMap.tilt < o then .noDown
      else if o + s.tables.zoneMap.tilt < m then ⟨some 0, none, none⟩ else .free := by
  simp only [tiltLimit, h1, h2, hm, ho, and_self, if_true, lt_sub_iff_add_lt']
  rfl

theorem tiltLimit_free {h : Hoist} {s : State} (hn : s.contexts.h1.pair ≠ .paired ∨ s.contexts.h2.pair ≠ .paired
    ∨ hookHeight h s = none ∨ hookHeight h.other s = none) : tiltLimit h s = .free := by
  rw [tiltLimit]
  split
  · next hp =>
    obtain ⟨h1, h2⟩ := hp
    rcases hn with hn | hn | hn | hn
    · exact absurd h1 hn
    · exact absurd h2 hn
    · rw [hn]
    · rw [hn]
      cases hookHeight h s <;> rfl
  · rfl

/-! ## STATE (R96, R97) -/

theorem stateLimit_empty {h : Hoist} {s : State}
    (hc : (s.contexts.get h).state = .idle ∨ (s.contexts.get h).state = .jigWeigh) :
    stateLimit h s = { Limits.free with down := hookGuard h s } := by
  rcases hc with hc | hc <;> simp only [stateLimit, stateTable, hc]

/-- With a tag, the entry of R96's table, but down 0 while the bottom is unknown. -/
theorem stateLimit_of_tag {h : Hoist} {s : State} {t : TagArgs} {pr : Profile} (ht : (s.contexts.get h).tag = some t)
    (hp : findProfile t.profile s = some pr) (hi : (s.contexts.get h).state ≠ .idle)
    (hj : (s.contexts.get h).state ≠ .jigWeigh) : stateLimit h s = { stateTable h s pr with
      down := if (dipBottom h s).isNone then some 0 else (stateTable h s pr).down } := by
  have profile : tagProfile h s = some pr := by simp only [tagProfile, ht, hp]
  rw [stateLimit, profile]
  cases hc : (s.contexts.get h).state with
  | idle => exact absurd hc hi
  | jigWeigh => exact absurd hc hj
  | _ => simp only [Option.getD_some]; split <;> rfl

theorem stateTable_tagged {h : Hoist} {s : State} {b : Int} (pr : Profile) (hc : (s.contexts.get h).state = .tagged)
    (hb : dipBottom h s = some b) :
    stateTable h s pr = ⟨none, if b ≤ approachHeight s then some 0 else none, none⟩ := by
  simp only [stateTable, hc, hb]
  split <;> rfl

/-- Settles O52: each source by its rule, and STATE by R96's table entry for the state. -/
theorem limitSourcesGiveTheirLimits : Obligations.LimitSourcesGiveTheirLimits := by
  refine ⟨fun h s => ⟨faultLimit_eq h s, rfl, rfl, rfl, bathLimit_eq h s, fun _ _ _ => drossLimit_eq, drossLimit_free,
    rfl, rfl, rfl, fun _ _ => tiltLimit_eq, tiltLimit_free⟩, ?_⟩
  rintro h s _ rfl
  refine ⟨stateLimit_empty, fun t pr ht hp hi hj down hdown => ?_⟩
  obtain rfl : down = fun d => if (dipBottom h s).isNone then some 0 else d := funext hdown
  have entry : limitsOf .state h s = _ := stateLimit_of_tag ht hp hi hj
  rw [entry]
  refine ⟨fun hc => ?tagged, fun hc => ?onTheWay, fun hc => ?lowering, fun hc => ?entering, fun hc => ?immersed,
    fun hc => ?withdrawing, fun hc => ?draining, fun hc => ?weighing, fun hc => ?abandoned⟩
  case tagged =>
    cases hb : dipBottom h s with
    | none => simp only [stateTable, hc, hb]; rfl
    | some b => simp only [stateTable_tagged pr hc hb, Option.any_some, decide_eq_true_iff]; rfl
  case onTheWay => rcases hc with hc | hc <;> simp only [stateTable, hc] <;> rfl
  case immersed => simp only [stateTable, hc, dwellElapsed_eq]
  case weighing => simp only [stateTable, hc]; rfl
  case lowering | entering | withdrawing | draining | abandoned => simp only [stateTable, hc, ite_self]

end Sys2Proof.Machine
end

section
/-! A MOTION request to the hoist station, limited and sent down (R30 to R35, R41). -/

namespace Sys2Proof.Machine

/-- MOTION to the port's hoist station is that hoist's (R30). -/
theorem limitedHoist_station {h : Hoist} {f : Frame} {s : State} (hc : f.code = 0x31)
    (ha : (s.tables.hoists.get h).station = some f.dest.toNat) : limitedHoist h.port f s = some h := by
  rw [limitedHoist, Hoist.hoist_port]
  exact if_pos ⟨hc, (isStation_iff _ _).2 ha⟩

theorem forwardMotion_eq (p : Port) (h : Hoist) (f : Frame) (s : State) (l : Limited)
    (hl : l = limitMotion f.payload h s) : forwardMotion p h f s = { s with
      sent := s.sent ++ [.down p { f with
        limited := false, attention := 0, payload := limitedPayload f.payload l.applied }]
      ports := s.ports.set p { s.ports.get p with
        slot := filledSlot p (.forwarded f.src l.reduced) f.dest f.seq f.code s }
      motion := s.motion.set h { s.motion.get h with
        requested := l.requested, applied := l.applied, govHoist := l.govHoist, govTravel := l.govTravel
        sender := .lineController, commandTimer := some (s.now + (s.tables.hoists.get h).commandTimeout) } } := by
  subst hl
  simp only [forwardMotion, motionSent, State.setMotion, sendDown, takeSlot, State.setPort, forwardFrame,
    PerHoist.get_set_same, PerHoist.set_set]
  rfl

/-- The sources read nothing that the traps change. -/
theorem passesTraps_limitsOf {port : Option Port} {f : Frame} {s s1 : State} (ht : passesTraps port f s s1)
    (src : LimitSource) (h : Hoist) : limitsOf src h s1.begin = limitsOf src h s := by
  rcases ht with ⟨_, rfl⟩ | ⟨i, _, rfl⟩ <;> cases src <;> rfl

theorem limitMotion_congr {h : Hoist} {s t : State} (hl : ∀ src, limitsOf src h t = limitsOf src h s)
    (p : List Byte) : limitMotion p h t = limitMotion p h s := by
  have hoist : ∀ v, hoistAxis v h t = hoistAxis v h s := fun v => by
    by_cases hv : v.hoistDir = .stop
    · rw [hoistAxis_stop h t hv, hoistAxis_stop h s hv]
    · simp only [hoistAxis_moving h _ hv, hl]
  have travel : ∀ v, travelAxis v h t = travelAxis v h s := fun v => by
    by_cases hv : v.travelDir = .stop
    · rw [travelAxis_stop h t hv, travelAxis_stop h s hv]
    · simp only [travelAxis_moving h _ hv, hl]
  simp only [limitMotion, appliedValues, hoist, travel]

theorem passesTraps_motion {port : Option Port} {f : Frame} {s s1 : State} (ht : passesTraps port f s s1) :
    s1.motion = s.motion := by
  rcases ht with ⟨_, rfl⟩ | ⟨i, _, rfl⟩ <;> rfl

/-- Settles O15: the traps leave what limiting reads, and the limited request takes the slot. -/
theorem motionRequestsAreLimited : Obligations.MotionRequestsAreLimited := by
  rintro bytes f s s1 h v w hf hr ho hd hw hs hn ht hc ha rfl rfl
  obtain ⟨htab, hports, hnow⟩ := passesTraps_frame ht
  have hmotion := passesTraps_motion ht
  have limited := limitMotion_congr (fun src => passesTraps_limitsOf ht src h) f.payload
  have station : (s1.begin.tables.hoists.get h).station = some f.dest.toNat := by rw [State.begin_tables, htab, ha]
  rw [exec_routed hf hr ho hd, routeRequest, routeOf_only (s := s.begin) hw]
  simp only
  rw [boundFor_passes hs hn ht, forwardRequest, limitedHoist_station hc station]
  simp only
  rw [forwardMotion_eq h.port h f s1.begin _ limited.symm]
  simp only [State.begin, hports, filledSlot, hnow, htab, hmotion]
  rfl

end Sys2Proof.Machine
end

section
/-! What every command keeps of the weighing channels, their calibration and the stored image: the filtered masses and
the hook zeros in their ranges (R52, R56), and the image (R172). -/

namespace Sys2Proof.Machine

/-! ## Masses, zeros and the image -/

/-- A filtered mass within the clamp of R52. -/
def Channel.MassClamped (c : Channel) : Prop := ∀ f, c.filtered = some f → -10000 ≤ f ∧ f ≤ 400000

/-- A hook zero within the fence of its calibration record (R56). -/
def Channel.ZeroFenced (c : Channel) (cal : Option CalRecord) : Prop :=
  ∀ r z, cal = some r → c.zero = some z → r.zero - r.trackRange ≤ z ∧ z ≤ r.zero + r.trackRange

theorem massesInRange_iff (s : State) : massesInRange s = true ↔ ∀ h, (s.channels.get h).MassClamped := by
  have one (c : Channel) : c.filtered.all (fun f => decide (-10000 ≤ f ∧ f ≤ 400000)) = true ↔ c.MassClamped := by
    cases hf : c.filtered <;> simp [Channel.MassClamped, hf]
  simp only [massesInRange, onBoth, Bool.and_eq_true, one]
  exact ⟨fun ⟨h1, h2⟩ h => by cases h <;> assumption, fun h => ⟨h .h1, h .h2⟩⟩

theorem zerosInFence_iff (s : State) :
    zerosInFence s = true ↔ ∀ h, (s.channels.get h).ZeroFenced (s.tables.calibration.get h) := by
  have one (h : Hoist) : (match s.tables.calibration.get h, (s.channels.get h).zero with
      | some r, some z => decide (r.zero - r.trackRange ≤ z ∧ z ≤ r.zero + r.trackRange)
      | _, _ => true) = true ↔ (s.channels.get h).ZeroFenced (s.tables.calibration.get h) := by
    unfold Channel.ZeroFenced
    cases s.tables.calibration.get h <;> cases (s.channels.get h).zero <;> simp
  rw [zerosInFence, onBoth, Bool.and_eq_true]
  exact ⟨fun ⟨h1, h2⟩ h => by cases h; exacts [(one .h1).1 h1, (one .h2).1 h2],
    fun h => ⟨(one .h1).2 (h .h1), (one .h2).2 (h .h2)⟩⟩

/-- `t` comes after `s` with each filtered mass in its clamp and each hook zero in its fence, where it was so in `s`. -/
structure Weighs (s t : State) : Prop where
  masses : ∀ h, (s.channels.get h).MassClamped → (t.channels.get h).MassClamped
  zeros : ∀ h, (s.channels.get h).ZeroFenced (s.tables.calibration.get h) →
    (t.channels.get h).ZeroFenced (t.tables.calibration.get h)

/-- `t` comes after `s` so, and with the stored image as it was. -/
structure Keeps (s t : State) : Prop extends Weighs s t where
  image : t.image = s.image

theorem Weighs.trans {s t u : State} (h : Weighs s t) (h' : Weighs t u) : Weighs s u :=
  ⟨fun x hx => h'.masses x (h.masses x hx), fun x hx => h'.zeros x (h.zeros x hx)⟩

theorem Keeps.trans {s t u : State} (h : Keeps s t) (h' : Keeps t u) : Keeps s u :=
  ⟨h.toWeighs.trans h'.toWeighs, h'.image.trans h.image⟩

/-- The later change named first, so that its own form says what came before it. -/
theorem Keeps.after {s t u : State} (h' : Keeps t u) (h : Keeps s t) : Keeps s u := h.trans h'

/-- What changes neither calibration nor channels. -/
theorem Weighs.of_same {s t : State} (hc : t.tables.calibration = s.tables.calibration)
    (hch : t.channels = s.channels) : Weighs s t := by
  constructor <;> intro h hx <;> rw [hch]
  · exact hx
  · rwa [hc]

theorem Keeps.of_same {s t : State} (hc : t.tables.calibration = s.tables.calibration)
    (hch : t.channels = s.channels) (hi : t.image = s.image) : Keeps s t := ⟨.of_same hc hch, hi⟩

theorem Keeps.refl (s : State) : Keeps s s := .of_same rfl rfl rfl

/-- One channel replaced by one whose mass and zero are in range where those before it were. -/
theorem keeps_setChannel {h : Hoist} {c : Channel} {s : State}
    (hm : (s.channels.get h).MassClamped → c.MassClamped)
    (hz : (s.channels.get h).ZeroFenced (s.tables.calibration.get h) → c.ZeroFenced (s.tables.calibration.get h)) :
    Keeps s (s.setChannel h c) := by
  refine ⟨⟨fun x hx => ?_, fun x hx => ?_⟩, rfl⟩ <;> rw [State.setChannel_channels, PerHoist.get_set]
  · split
    · next e => subst e; exact hm hx
    · exact hx
  · split
    · next e => subst e; exact hz hx
    · exact hx

theorem PollOnly.weighed {s t : State} (h : PollOnly s t) : Keeps s t := by
  obtain ⟨l, n, u, b, _, rfl⟩ := h
  exact .of_same rfl rfl rfl

theorem GeneratedOnly.weighed {p : Port} {s t : State} (h : GeneratedOnly p s t) : Keeps s t := by
  obtain ⟨l, n, u, m, b, f, _, rfl⟩ := h
  exact .of_same rfl rfl rfl

theorem ClaimsOnly.weighed {s t : State} (h : ClaimsOnly s t) : Keeps s t := by
  obtain ⟨o, w, c, rfl⟩ := h
  exact .of_same rfl rfl rfl

/-- A close changes tables, but not the calibration. -/
theorem AccountsOnly.weighed {s t : State} (h : AccountsOnly s t)
    (hc : t.tables.calibration = s.tables.calibration) : Keeps s t := by
  obtain ⟨x, r, n, f, rfl⟩ := h
  exact .of_same hc rfl rfl

theorem keeps_setNoticeIf (c : Bool) (n : Notice) (s : State) : Keeps s (setNoticeIf c n s) :=
  .of_same (by simp) (by simp) (by simp)

/-! ## The weighing channel (R50 to R56) -/

@[simp] theorem minStep_zero (n : Nat) : minStep 0 n = 0 := by simp [minStep]

theorem minStep_pos {d : Int} (n : Nat) (hd : 0 < d) : minStep d n = max 1 (d / n) := by
  have hq : 0 ≤ d / n := Int.ediv_nonneg (by omega) (by omega)
  simp only [minStep, Int.tdiv_eq_ediv_of_nonneg hd.le, if_pos hd]
  split <;> omega

theorem minStep_neg (d : Int) (n : Nat) : minStep (-d) n = -minStep d n := by
  simp only [minStep, Int.neg_tdiv, neg_eq_zero]
  split
  · split <;> split <;> omega
  · rfl

/-- A truncated step of at least one unit goes no further than the whole way (R52, R56). -/
theorem minStep_le_of_pos {d : Int} {n : Nat} (hd : 0 < d) : 0 ≤ minStep d n ∧ minStep d n ≤ d := by
  have hq : d / n ≤ d := Int.ediv_le_self n hd.le
  rw [minStep_pos n hd]
  omega

/-- One step of `a` toward `b` lands between the two. -/
theorem add_minStep_mem {lo hi a b : Int} (n : Nat) (ha : lo ≤ a ∧ a ≤ hi) (hb : lo ≤ b ∧ b ≤ hi) :
    lo ≤ a + minStep (b - a) n ∧ a + minStep (b - a) n ≤ hi := by
  rcases lt_trichotomy a b with h | rfl | h
  · have := minStep_le_of_pos (n := n) (sub_pos.2 h)
    omega
  · simpa using ha
  · have := minStep_le_of_pos (n := n) (sub_pos.2 h)
    rw [show b - a = -(a - b) by omega, minStep_neg]
    omega

theorem clampInt_mem {lo hi : Int} (x : Int) (h : lo ≤ hi) : lo ≤ clampInt lo hi x ∧ clampInt lo hi x ≤ hi := by
  unfold clampInt
  omega

/-- f seeded or moved toward a clamped mass stays in the clamp (R51, R52). -/
theorem massClamped_convert {c : Channel} (r : CalRecord) (count : Int) (hc : c.MassClamped) :
    (c.convert r count).MassClamped := by
  have hm := clampInt_mem (lo := Config.massMin) (hi := Config.massMax)
    (rawMass count (c.zero.getD r.zero) r.gain) (by decide)
  intro f hf
  cases hcf : c.filtered with
  | none =>
    simp only [Channel.convert, hcf, Option.some.injEq] at hf
    exact hf ▸ hm
  | some g =>
    simp only [Channel.convert, hcf, Option.some.injEq] at hf
    exact hf ▸ add_minStep_mem _ (hc g hcf) hm

/-- A hook zero is moved by tracking alone, and then clamped to the fence (R56). -/
theorem zeroFenced_trackStage {c : Channel} {r : CalRecord} (t : Telemetry) (idle : Bool) (hc : c.ZeroFenced (some r)) :
    (c.trackStage r t idle).ZeroFenced (some r) := by
  unfold Channel.trackStage
  split
  · intro _ z hr hz
    obtain rfl := Option.some.inj hr
    exact Option.some.inj hz ▸ clampInt_mem _ (by omega)
  · exact hc

/-! ## The stages that leave f or the zero alone -/

@[simp] theorem Channel.convert_zero (c : Channel) (r : CalRecord) (count : Int) : (c.convert r count).zero = c.zero :=
  rfl

@[simp] theorem Channel.settleStage_filtered (c : Channel) (r : CalRecord) :
    (c.settleStage r).filtered = c.filtered := rfl

@[simp] theorem Channel.settleStage_zero (c : Channel) (r : CalRecord) : (c.settleStage r).zero = c.zero := rfl

@[simp] theorem Channel.overloadStage_filtered (c : Channel) (r : CalRecord) :
    (c.overloadStage r).filtered = c.filtered := rfl

@[simp] theorem Channel.overloadStage_zero (c : Channel) (r : CalRecord) : (c.overloadStage r).zero = c.zero := rfl

@[simp] theorem Channel.trackStage_filtered (c : Channel) (r : CalRecord) (t : Telemetry) (idle : Bool) :
    (c.trackStage r t idle).filtered = c.filtered := by
  unfold Channel.trackStage
  split <;> rfl

theorem Channel.MassClamped.congr {c d : Channel} (hc : c.MassClamped) (h : d.filtered = c.filtered) :
    d.MassClamped := fun f hf => hc f (h ▸ hf)

theorem Channel.ZeroFenced.congr {c d : Channel} {cal : Option CalRecord} (hc : c.ZeroFenced cal)
    (h : d.zero = c.zero) : d.ZeroFenced cal := fun r z hr hz => hc r z hr (h ▸ hz)

theorem massClamped_sample {c : Channel} (cal : Option CalRecord) (t : Telemetry) (idle : Bool) (now : Nat)
    (hc : c.MassClamped) : (c.sample cal t idle now).MassClamped := by
  have block : (c.recordBlock t now).MassClamped := hc.congr rfl
  unfold Channel.sample
  cases cal with
  | none => exact block
  | some r =>
    cases ht : t.loadValid
    · exact block.congr rfl
    · exact (massClamped_convert r t.count block).congr (by simp [Channel.weigh])

theorem zeroFenced_sample {c : Channel} {cal : Option CalRecord} (t : Telemetry) (idle : Bool) (now : Nat)
    (hc : c.ZeroFenced cal) : (c.sample cal t idle now).ZeroFenced cal := by
  have block : (c.recordBlock t now).ZeroFenced cal := hc.congr rfl
  unfold Channel.sample
  cases cal with
  | none => exact block
  | some r =>
    cases ht : t.loadValid
    · exact block.congr rfl
    · exact zeroFenced_trackStage t idle (block.congr (by simp))

/-! ## Dips -/

theorem keeps_modContexts (ms : List Hoist) (f : Context → Context) (s : State) : Keeps s (modContexts ms f s) :=
  (modContexts_claimsOnly ms f s).weighed

/-- The settle count alone restarted. -/
theorem keeps_enterWeighing (ms : List Hoist) (pr : Profile) (s : State) : Keeps s (enterWeighing ms pr s) := by
  have settle : ∀ s : State,
      Keeps s (ms.foldl (fun s h => s.setChannel h { s.channels.get h with settle := 0 }) s) := by
    induction ms with
    | nil => exact .refl
    | cons h ms ih =>
      exact fun s => Keeps.after (ih _) (keeps_setChannel (fun hm => hm.congr rfl) (fun hz => hz.congr rfl))
  unfold enterWeighing
  exact (settle s).trans (keeps_modContexts _ _ _)

theorem keeps_enterDraining (ms : List Hoist) (pr : Profile) (b : Bool) (s : State) :
    Keeps s (enterDraining ms pr b s) := by
  unfold enterDraining
  split
  · exact (keeps_modContexts _ _ _).trans (keeps_enterWeighing _ _ _)
  · exact keeps_modContexts _ _ _

theorem writeRecord_calibration (r : Record) (s : State) :
    (writeRecord r s).tables.calibration = s.tables.calibration := by simp [writeRecord]

theorem keeps_closeNormal (c : Context) (t : TagArgs) (h : RecordHoist) (w : Int) (s : State) :
    Keeps s (closeNormal c t h w s) :=
  (closeNormal_accountsOnly c t h w s).weighed (by simp [closeNormal, modJob, modJig, writeRecord])

theorem keeps_closeUnweighed (c : Context) (t : TagArgs) (h : RecordHoist) (s : State) :
    Keeps s (closeUnweighed c t h s) :=
  (closeUnweighed_accountsOnly c t h s).weighed (writeRecord_calibration _ s)

theorem keeps_closeAborted (c : Context) (t : TagArgs) (h : RecordHoist) (s : State) :
    Keeps s (closeAborted c t h s) := by
  refine (closeAborted_accountsOnly c t h s).weighed ?_
  unfold closeAborted
  split <;> exact writeRecord_calibration _ s

theorem keeps_finishDip (h : Hoist) (s : State) : Keeps s (finishDip h s) :=
  (releaseClaim_claimsOnly h s).weighed.trans (keeps_modContexts _ _ _)

theorem keeps_dipNormal (h : Hoist) (w : Int) (s : State) : Keeps s (dipNormal h w s) := by
  unfold dipNormal
  split
  · exact (keeps_closeNormal _ _ _ _ s).trans (keeps_finishDip _ _)
  · exact .refl s

theorem keeps_sampleWeighing (h : Hoist) (s : State) : Keeps s (sampleWeighing h s) := by
  have wet (u : State) : Keeps u (match dipFiltered h u with
      | some f => if dipSettled h u then dipNormal h f u else u
      | none => u) := by
    split
    · split
      · exact keeps_dipNormal h _ u
      · exact .refl u
    · exact .refl u
  refine Keeps.after (wet _) ?_
  split
  · split
    · exact (releaseClaim_claimsOnly h s).weighed
    · exact .refl s
  · exact .refl s

theorem keeps_sampleAbandoned (h : Hoist) (s : State) : Keeps s (sampleAbandoned h s) := by
  have left (o : Owner) (c : Context) : Keeps s (releaseZones o (s.setContext h c)) :=
    Keeps.after (releaseZones_claimsOnly o _).weighed (.of_same rfl rfl rfl)
  unfold sampleAbandoned
  split
  · simp only
    split
    · split
      · split
        · exact .of_same rfl rfl rfl
        · exact left _ _
      · exact left _ _
    · exact .refl s
  · exact .refl s

theorem keeps_transitionTest (h : Hoist) (s : State) : Keeps s (transitionTest h s) := by
  unfold transitionTest
  split
  case h_2 =>
    unfold sampleJigWeigh
    split
    · split
      · exact .of_same rfl rfl rfl
      · exact .refl s
    · exact .refl s
  case h_3 =>
    unfold sampleTagged
    split
    · split
      · split <;> exact keeps_modContexts _ _ s
      · exact .refl s
    · exact .refl s
  case h_4 =>
    unfold sampleReady
    split
    · split
      · exact (submitClaim_claimsOnly _ _ _ s).weighed
      · exact .refl s
    · exact .refl s
  case h_6 =>
    unfold sampleLowering
    split
    · split
      · exact keeps_modContexts _ _ s
      · exact .refl s
    · exact .refl s
  case h_7 =>
    unfold sampleEntering
    split
    · split
      · exact keeps_modContexts _ _ s
      · split
        · exact keeps_enterDraining _ _ _ s
        · exact .refl s
    · exact .refl s
  case h_8 =>
    unfold sampleImmersed
    split
    · split
      · exact keeps_modContexts _ _ s
      · exact .refl s
    · exact .refl s
  case h_9 =>
    unfold sampleWithdrawing
    split
    · split
      · exact keeps_modContexts _ _ s
      · split
        · exact keeps_enterDraining _ _ _ s
        · exact .refl s
    · exact .refl s
  case h_11 => exact keeps_sampleWeighing h s
  case h_12 => exact keeps_sampleAbandoned h s
  all_goals exact .refl s

theorem keeps_inBathUpdates (h : Hoist) (found : DipState) (s : State) : Keeps s (inBathUpdates h found s) := by
  unfold inBathUpdates
  split
  · simp only
    split
    · exact (keeps_modContexts _ _ s).trans ((keeps_setNoticeIf _ _ _).trans (keeps_setNoticeIf _ _ _))
    · exact .refl s
  · exact .refl s

theorem keeps_markOverload (h : Hoist) (s : State) : Keeps s (markOverload h s) := by
  unfold markOverload
  split
  · exact keeps_modContexts _ _ s
  · exact .refl s

theorem keeps_syncPollMode (s : State) : Keeps s (syncPollMode s) := (syncPollMode_pollOnly s).weighed

theorem keeps_contextSample (h : Hoist) (s : State) : Keeps s (contextSample h s) :=
  ((keeps_markOverload h s).trans (keeps_transitionTest h _)).trans
    ((keeps_inBathUpdates h _ _).trans (keeps_syncPollMode _))

theorem keeps_takeSample (h : Hoist) (t : Telemetry) (s : State) : Keeps s (takeSample h t s) := by
  refine Keeps.after (keeps_contextSample h _) (Keeps.after (keeps_setNoticeIf _ _ _) ?_)
  exact keeps_setChannel (massClamped_sample _ _ _ _) (zeroFenced_sample _ _ _)

theorem keeps_abortDip (h : Hoist) (s : State) : Keeps s (abortDip h s) := by
  unfold abortDip
  split
  · refine Keeps.trans ?_ (keeps_syncPollMode _)
    exact ((keeps_modContexts _ _ s).trans (keeps_closeAborted _ _ _ _)).trans (keeps_modContexts _ _ _)
  · exact .refl s

/-! ## The link -/

theorem keeps_setPort (p : Port) (u : PortUnit) (s : State) : Keeps s (s.setPort p u) := .of_same rfl rfl rfl

theorem keeps_abandonSlot (p : Port) (lc : LocalCode) (s : State) : Keeps s (abandonSlot p lc s) := by
  rw [abandonSlot_eq]
  exact .of_same rfl rfl rfl

theorem keeps_isolate (h : Hoist) (s : State) : Keeps s (isolate h s) := by
  have cut : Keeps s (cutOff h s) := .of_same rfl rfl rfl
  rw [isolate_eq]
  refine Keeps.after (keeps_setPort _ _ _) (Keeps.after (sendStop_generatedOnly h _ _).weighed ?_)
  exact cut.trans (keeps_abortDip h _)

theorem keeps_portError (p : Port) (e : PortError) (s : State) : Keeps s (portError p e s) := by
  have counted : Keeps s (countError p e s) := .of_same rfl rfl rfl
  have worked (hu : (s.ports.get p).state = .opened ∨ (s.ports.get p).state = .faulted) :
      Keeps s (portError p e s) := by
    cases hs : strictStops p s with
    | true =>
      obtain ⟨h, rfl⟩ := strictStops_hoist hs
      rw [portError_isolates hu hs]
      exact counted.trans (keeps_isolate h _)
    | false =>
      rw [portError_faults hu hs]
      exact counted.trans (keeps_setPort _ _ _)
  cases hu : (s.ports.get p).state with
  | opened => exact worked (.inl hu)
  | faulted => exact worked (.inr hu)
  | isolated => rw [portError_isolated hu]; exact counted
  | restarting => rw [portError_restarting hu]; exact .refl s

theorem keeps_sendPending (p : Port) (s : State) : Keeps s (sendPending p s) := (sendPending_generatedOnly p s).weighed

theorem keeps_pollDue (s : State) : Keeps s (pollDue s) := (pollDue_pollOnly s).weighed

theorem keeps_freeWithError (p : Port) (lc : LocalCode) (e : PortError) (s : State) :
    Keeps s (freeWithError p lc e s) :=
  ((keeps_abandonSlot p lc s).trans (keeps_portError p e _)).trans (keeps_sendPending p _)

theorem keeps_takeBathSample (r : BathReading) (s : State) : Keeps s (takeBathSample r s) := by
  obtain ⟨b, f, h⟩ := takeBathSample_only r s
  rw [h]
  exact .of_same rfl rfl rfl

theorem keeps_readReply (p : Port) (code : Byte) (f : Frame) (s : State) : Keeps s (readReply p code f s) := by
  unfold readReply
  split
  · split
    · split
      · exact keeps_takeSample _ _ s
      · exact .refl s
    · exact .refl s
  · split
    · split
      · exact keeps_takeBathSample _ s
      · exact .refl s
    · exact .refl s

theorem keeps_matchedReply (p : Port) (sl : Slot) (f : Frame) (s : State) : Keeps s (matchedReply p sl f s) := by
  have up (u : State) : Keeps u (replyUp sl.origin f u) := by
    unfold replyUp
    split
    · exact .of_same rfl rfl rfl
    · exact .refl u
  exact (((keeps_setPort p _ s).trans (keeps_sendPending p _)).trans (keeps_readReply p _ _ _)).trans (up _)

theorem keeps_receiveDown (p : Port) (bytes : List Byte) (s : State) : Keeps s (receiveDown p bytes s) := by
  unfold receiveDown
  split
  · exact .refl s
  · split
    · unfold undamagedFrame
      split
      · split
        · exact keeps_matchedReply p _ _ s
        · exact keeps_portError p _ s
      · exact keeps_portError p _ s
    · exact keeps_freeWithError p _ _ s

theorem keeps_replyTimeout (p : Port) (s : State) : Keeps s (replyTimeout p s) := by
  unfold replyTimeout
  split
  · split
    · exact keeps_freeWithError p _ _ s
    · exact .refl s
  · exact .refl s

theorem keeps_recoveryExpired (p : Port) (s : State) : Keeps s (recoveryExpired p s) := by
  unfold recoveryExpired
  simp only
  split
  · exact keeps_setPort _ _ s
  · exact .refl s

theorem keeps_generatedDue (p : Port) (g : GenRequest) (s : State) : Keeps s (generatedDue p g s) :=
  (generatedDue_generatedOnly p g s).weighed

theorem keeps_stopTimerExpired (h : Hoist) (s : State) : Keeps s (stopTimerExpired h s) := by
  unfold stopTimerExpired
  simp only
  split
  · exact (keeps_setPort _ _ s).trans (keeps_generatedDue _ _ _)
  · exact .refl s

theorem keeps_restartHoldExpired (p : Port) (s : State) : Keeps s (restartHoldExpired p s) := by
  unfold restartHoldExpired
  simp only
  split
  · exact (keeps_setPort _ _ s).trans (keeps_sendPending _ _)
  · exact .refl s

theorem keeps_commandTimerExpired (h : Hoist) (s : State) : Keeps s (commandTimerExpired h s) := by
  have stopped (m : HoistMotion) : Keeps s (s.setMotion h m) := .of_same rfl rfl rfl
  unfold commandTimerExpired
  simp only
  split
  · split
    · exact stopped _
    · exact (stopped _).trans (keeps_generatedDue _ _ _)
  · exact .refl s

theorem keeps_restartPort (p : Port) (s : State) : Keeps s (restartPort p s) := by
  rw [restartPort_eq]
  exact .of_same rfl rfl rfl

theorem keeps_forwardRequest (p : Port) (f : Frame) (s : State) : Keeps s (forwardRequest p f s) := by
  unfold forwardRequest
  split <;> exact .of_same rfl rfl rfl

theorem keeps_countHit (i : Nat) (s : State) : Keeps s (countHit i s) := .of_same rfl rfl rfl

theorem keeps_routeRequest (f : Frame) (s : State) : Keeps s (routeRequest f s) := by
  have answer (lc : LocalCode) (u : State) : Keeps u (answerRequest f lc u) := .of_same rfl rfl rfl
  unfold routeRequest
  split
  · unfold boundFor
    simp only
    split
    case h_4 =>
      split
      · exact (keeps_countHit _ s).trans (answer _ _)
      · exact (keeps_countHit _ s).trans (keeps_forwardRequest _ f _)
      · exact keeps_forwardRequest _ f s
    all_goals exact answer _ s
  · exact answer _ s

theorem keeps_broadcast (f : Frame) (s : State) : Keeps s (broadcast f s) := by
  have sent (u : State) : Keeps u (sendBroadcast f u) := by
    rw [sendBroadcast_eq]
    exact .of_same rfl rfl rfl
  unfold broadcast
  split
  · exact keeps_countHit _ s
  · exact (keeps_countHit _ s).trans (sent _)
  · exact sent s

end Sys2Proof.Machine
end

section
/-! Which requests and events keep the masses, the zeros and the stored image (R52, R56, R172). -/

namespace Sys2Proof.Machine

/-! ## The owning rules of the management requests -/

/-- A check before the rest of a rule. -/
theorem keeps_check {c : Prop} [Decidable c] {st : Status} {s : State} {r : Answer} (h : Keeps s r.state) :
    Keeps s (if c then refuse st s else r).state := by
  split
  · exact .refl s
  · exact h

theorem keeps_readPage {s t : State} (page : Nat) (items : List Item) (h : Keeps s t) :
    Keeps s (readPage page items s t).state := by
  unfold readPage
  split
  · exact h
  · exact .refl s

theorem keeps_reading (page : Nat) (items : List Item) (s : State) : Keeps s (readPage page items s s).state :=
  keeps_readPage page items (.refl s)

/-- LOAD CALIBRATION seeds the zero with the record's own, and leaves no filtered mass (R45). -/
theorem keeps_loadCalibrationRule (n : Nat) (x : CalRecord) (s : State) :
    Keeps s (loadCalibrationRule n x s).state := by
  unfold loadCalibrationRule
  split
  · exact .refl s
  · next h _ =>
    refine keeps_check (keeps_check (keeps_check ⟨⟨fun y hy => ?_, fun y hy => ?_⟩, rfl⟩))
    · simp only [accept, State.setChannel_channels, State.setTables_channels, PerHoist.get_set]
      split
      · exact fun f hf => nomatch hf
      · exact hy
    · simp only [accept, State.setChannel_channels, State.setTables_channels, State.setChannel_tables,
        State.setTables_tables, PerHoist.get_set]
      split
      · intro r z hr hz
        obtain rfl := Option.some.inj hr
        obtain rfl := Option.some.inj hz
        omega
      · exact hy

/-- REZERO HOOK takes a count inside the fence as the zero, and leaves no filtered mass (R58). -/
theorem keeps_rezeroHookRule (n : Nat) (s : State) : Keeps s (rezeroHookRule n s).state := by
  unfold rezeroHookRule
  split
  · exact .refl s
  · split
    · exact .refl s
    · next r hr =>
      split
      · exact .refl s
      · split
        · next hb =>
          refine keeps_setChannel (fun _ f hf => nomatch hf) (fun _ r' z hr' hz => ?_)
          obtain rfl := Option.some.inj (hr.symm.trans hr')
          obtain rfl := Option.some.inj hz
          simpa [withinInt] using hb
        · exact .refl s

/-- TAG LOAD changes contexts alone (R71, R78). -/
theorem keeps_tagLoadRule (x : TagArgs) (s : State) : Keeps s (tagLoadRule x s).state := by
  unfold tagLoadRule
  split
  · exact .refl s
  · next h _ =>
    have cleared : Keeps s (clearPermit h s) := .of_same rfl rfl rfl
    split
    · exact cleared
    · obtain ⟨c, o, ht, _⟩ := takeTag_contexts h x (clearPermit h s)
      rw [ht]
      exact cleared.trans (.of_same rfl rfl rfl)

theorem keeps_cancelLoadRule (n : Nat) (s : State) : Keeps s (cancelLoadRule n s).state := by
  unfold cancelLoadRule
  split
  · exact .refl s
  · split
    case h_2 | h_3 | h_4 => exact (cancelTag_claimsOnly _ s).weighed
    all_goals exact .refl s

theorem keeps_holdStale (s : State) : Keeps s (holdStale s) :=
  Keeps.after (keeps_setNoticeIf _ _ _) (.of_same rfl rfl rfl)

theorem keeps_loadBathSettingsRule (x : BathArgs) (s : State) : Keeps s (loadBathSettingsRule x s).state := by
  have redated (n : Nat) (u : State) : Keeps u (redateFigures n u) := by
    unfold redateFigures
    simp only
    split
    · exact Keeps.after (keeps_holdStale _) (.of_same rfl rfl rfl)
    · exact .of_same rfl rfl rfl
  have station (a b : Option Nat) (u : State) : Keeps u (changeBathStation a b u) := by
    unfold changeBathStation
    split
    · exact keeps_pollDue u
    · exact .of_same rfl rfl rfl
    · exact .refl u
  refine keeps_check (keeps_check (keeps_check ?_))
  exact Keeps.after (station _ _ _) (Keeps.after (redated _ _) (.of_same rfl rfl rfl))

/-- Every owning rule but the two that start a save keeps the masses, the zeros and the image. Those cited by no lemma
above write tables other than the calibration, motion records, contexts or notices alone. -/
theorem ruleOf_keeps {i : Instr} (hs : ∀ q, i ≠ .saveTables q) (hl : ∀ q, i ≠ .lockCalibration q) (s : State) :
    Keeps s (ruleOf i s).state := by
  cases i with
  | saveTables q => exact absurd rfl (hs q)
  | lockCalibration q => exact absurd rfl (hl q)
  | loadCalibration q hoist x => exact keeps_loadCalibrationRule hoist x s
  | rezeroHook q hoist => exact keeps_rezeroHookRule hoist s
  | tagLoad q x => exact keeps_tagLoadRule x s
  | cancelLoad q hoist => exact keeps_cancelLoadRule hoist s
  | loadBathSettings q x => exact keeps_loadBathSettingsRule x s
  | drossRemoved q mass | ashRemoved q mass =>
    exact keeps_check (Keeps.after (keeps_setNoticeIf _ _ _) (.of_same rfl rfl rfl))
  | readStatus q page => exact keeps_readPage _ _ (.of_same rfl rfl rfl)
  | readMotion | readZones | readBath | readBalance | readQueue =>
    simp only [ruleOf, readMotionRule, readZonesRule, readBathRule, readBalanceRule, readQueueRule]
    exact keeps_reading _ _ s
  | readPortStatus q port page =>
    simp only [ruleOf, readPortStatusRule]
    split
    · exact .refl s
    · refine keeps_readPage page _ ?_
      split <;> exact .of_same rfl rfl rfl
  | readProfile q number page =>
    simp only [ruleOf, readProfileRule]
    refine keeps_check ?_
    split
    · exact .refl s
    · exact keeps_reading page _ s
  | readTrap q entry page =>
    simp only [ruleOf, readTrapRule]
    split
    · exact keeps_reading page _ s
    · exact .refl s
  | readWeight | readJig | readContext | readJob =>
    simp only [ruleOf, readWeightRule, readJigRule, readContextRule, readJobRule]
    split
    · exact .refl s
    · exact keeps_reading _ _ s
  | setAddress | loadWindows | setPortTiming | loadTrap | loadHoistSettings | setOperatorCap =>
    simp only [ruleOf, setAddressRule, loadWindowsRule, setPortTimingRule, loadTrapRule, loadHoistSettingsRule,
      setOperatorCapRule]
    repeat' split
    all_goals exact .of_same rfl rfl rfl
  | loadProfile | removeProfile | loadJig | withdrawJig | returnJig | removeJig =>
    simp only [ruleOf, loadProfileRule, removeProfileRule, loadJigRule, withdrawJigRule, returnJigRule, removeJigRule]
    repeat' split
    all_goals exact .of_same rfl rfl rfl
  | setMaintenancePermit | weighJig | loadZoneMap | setDrossCeiling | setZoneService =>
    simp only [ruleOf, setMaintenancePermitRule, weighJigRule, loadZoneMapRule, setDrossCeilingRule, setZoneServiceRule]
    repeat' split
    all_goals exact .of_same rfl rfl rfl
  | openJob | setJobBand | resumeJob | closeJob | releaseJob | zincAdded | setBalance | setBalanceToLevel =>
    simp only [ruleOf, openJobRule, setJobBandRule, resumeJobRule, closeJobRule, releaseJobRule, zincAddedRule,
      setBalanceRule, setBalanceToLevelRule]
    repeat' split
    all_goals exact .of_same rfl rfl rfl
  | peekRecord | takeRecord | readNotices | clearNotices | setNoticeLevels =>
    simp only [ruleOf, peekRecordRule, takeRecordRule, readNoticesRule, clearNoticesRule, setNoticeLevelsRule]
    repeat' split
    all_goals exact .of_same rfl rfl rfl
  | _ => exact .refl s

theorem weighs_startSave (s : State) : Weighs s (startSave s) := .of_same rfl rfl

/-- Every owning rule keeps the masses and the zeros. -/
theorem ruleOf_weighs (i : Instr) (s : State) : Weighs s (ruleOf i s).state := by
  by_cases hs : ∃ q, i = .saveTables q
  · obtain ⟨q, rfl⟩ := hs
    exact weighs_startSave s
  · by_cases hl : ∃ q, i = .lockCalibration q
    · obtain ⟨q, rfl⟩ := hl
      simp only [ruleOf, lockCalibrationRule]
      split
      · exact (Keeps.refl s).toWeighs
      · split
        · exact (Keeps.refl s).toWeighs
        · exact .of_same rfl rfl
    · exact (ruleOf_keeps (fun q h => hs ⟨q, h⟩) (fun q h => hl ⟨q, h⟩) s).toWeighs

/-! ## The commands -/

theorem keeps_reply (q : Req) (own code : Byte) (st : Status) (data : List Byte) (s : State) :
    Keeps s (reply q own code st data s) := .of_same rfl rfl rfl

theorem keeps_answered (q : Req) (code : Byte) (st : Status) (data : List Byte) (s : State) :
    Keeps s.begin (answered q code st data s s) := .of_same rfl rfl rfl

theorem keeps_restartSegment {q : Req} {n : Nat} {s t : State} (h : exec (.restartSegment q n) s = .next t) :
    Keeps s.begin t := by
  cases hp : portOf n with
  | none =>
    rw [exec_restartSegment_none q s hp] at h
    cases h
    exact keeps_answered _ _ _ _ s
  | some p =>
    cases hr : restartRefused p s with
    | true =>
      rw [exec_restartSegment_refused q s hp hr] at h
      cases h
      exact keeps_answered _ _ _ _ s
    | false =>
      rw [exec_restartSegment_done q s hp hr] at h
      cases h
      exact (keeps_answered _ _ _ _ s).trans (keeps_restartPort p _)

/-- Every management request keeps the masses and the zeros. -/
theorem weighs_management {i : Instr} {code : Byte} {s t : State} (hc : managementCode i = some code)
    (h : exec i s = .next t) : Weighs s.begin t := by
  by_cases hr : ∃ q n, i = .restartSegment q n
  · obtain ⟨q, n, rfl⟩ := hr
    exact (keeps_restartSegment h).toWeighs
  · rw [exec_manage hc (fun q n hi => hr ⟨q, n, hi⟩), manage_next] at h
    injection h with h
    subst h
    split
    · exact (keeps_answered _ _ _ _ s).toWeighs
    · exact (ruleOf_weighs i s.begin).trans (keeps_reply _ _ _ _ _ _).toWeighs

/-- And the image, where it starts no save. -/
theorem image_management {i : Instr} {code : Byte} {s t : State} (hc : managementCode i = some code)
    (hs : ∀ q, i ≠ .saveTables q) (hl : ∀ q, i ≠ .lockCalibration q) (h : exec i s = .next t) : t.image = s.image := by
  by_cases hr : ∃ q n, i = .restartSegment q n
  · obtain ⟨q, n, rfl⟩ := hr
    exact (keeps_restartSegment h).image
  · rw [exec_manage hc (fun q n hi => hr ⟨q, n, hi⟩), manage_next] at h
    injection h with h
    subst h
    split
    · rfl
    · exact ((ruleOf_keeps hs hl s.begin).trans (keeps_reply _ _ _ _ _ _)).image

theorem weighs_managementRequest {q : Req} {code : Byte} {p : List Byte} {s t : State}
    (h : managementRequest q code p s = .next t) : Weighs s.begin t := by
  cases hd : decodeManagement q code p with
  | some i =>
    rw [managementRequest_some s hd] at h
    exact weighs_management (decodeManagement_code hd).1 h
  | none =>
    rw [managementRequest_bad q s (by rw [← decodeManagement_isSome q, hd]; rfl)] at h
    cases h
    exact (keeps_answered _ _ _ _ s).toWeighs

/-- A frame's code says which request it spells: one that spells neither request that starts a save keeps the image. -/
theorem image_managementRequest {q : Req} {code : Byte} {p : List Byte} {s t : State} (hs : code ≠ 0x82)
    (hl : code ≠ 0x91) (h : managementRequest q code p s = .next t) : t.image = s.image := by
  cases hd : decodeManagement q code p with
  | some i =>
    obtain ⟨hc, _⟩ := decodeManagement_code hd
    rw [managementRequest_some s hd] at h
    refine image_management hc (fun q' e => ?_) (fun q' e => ?_) h <;> subst e
    · exact hs (Option.some.inj hc).symm
    · exact hl (Option.some.inj hc).symm
  | none =>
    rw [managementRequest_bad q s (by rw [← decodeManagement_isSome q, hd]; rfl)] at h
    cases h
    rfl

/-- What becomes of a frame on port U: it spells a management request of its own code, or it keeps everything. -/
theorem exec_upstreamFrame_cases {bytes : List Byte} {s t : State} (h : exec (.upstreamFrame bytes) s = .next t) :
    Keeps s.begin t
      ∨ ∃ f, parseFrame bytes = some f ∧ managementRequest ⟨f.src, f.seq⟩ f.code f.payload s = .next t := by
  simp only [exec, execUpstreamFrame] at h
  split at h
  · next f hf =>
    unfold upstream at h
    split at h
    · cases h; exact .inl (.refl _)
    · split at h
      · exact .inr ⟨f, hf, h⟩
      · split at h
        · cases h; exact .inl (keeps_broadcast f _)
        · cases h; exact .inl (keeps_routeRequest f _)
  · cases h; exact .inl (.of_same rfl rfl rfl)

/-! ## Events and start-up -/

theorem keeps_drainDwellExpiry (h : Hoist) (s : State) :
    Keeps s.begin (if timerDue .draining Context.drainTimer h s.begin then drainExpired h s.begin else s.begin) := by
  split
  · unfold drainExpired
    split
    · exact (keeps_enterWeighing _ _ _).trans (keeps_syncPollMode _)
    · exact .refl _
  · exact .refl _

theorem keeps_weighTimerExpiry (h : Hoist) (s : State) :
    Keeps s.begin (if timerDue .weighing Context.weighTimer h s.begin then weighExpired h s.begin else s.begin) := by
  split
  · unfold weighExpired
    split
    · exact ((keeps_closeUnweighed _ _ _ _).trans (keeps_finishDip h _)).trans (keeps_syncPollMode _)
    · exact .refl _
  · exact .refl _

theorem keeps_jigWeighTimerExpiry (h : Hoist) (s : State) :
    Keeps s.begin (if timerDue .jigWeigh (fun c => c.jigWeigh.timer) h s.begin then jigWeighExpired h s.begin
      else s.begin) := by
  split
  · exact .of_same rfl rfl rfl
  · exact .refl _

theorem keeps_pollTimerExpiry (s : State) :
    Keeps s.begin (if due s.bath.pollTimer s.begin then pollDue (s.begin.setBath { s.bath with pollTimer := none })
      else s.begin) := by
  split
  · exact Keeps.after (keeps_pollDue _) (.of_same rfl rfl rfl)
  · exact .refl _

theorem keeps_staleExpiry (fig : BathFigure) (s : State) :
    Keeps s.begin (if due ((s.bath.figure fig).bind Figure.deadline) s.begin then staleExpired fig s.begin
      else s.begin) := by
  split
  · exact Keeps.after (keeps_holdStale _) (.of_same rfl rfl rfl)
  · exact .refl _

theorem weighs_completeSave (s : State) : Weighs s (completeSave s) := by
  unfold completeSave
  split
  · exact .of_same rfl rfl
  · exact (Keeps.refl s).toWeighs

/-- At start-up no channel holds a filtered mass, and each zero is its record's own (R60). -/
theorem startChannel_inRange (cal : Option CalRecord) :
    (startChannel cal).MassClamped ∧ (startChannel cal).ZeroFenced cal := by
  refine ⟨fun f hf => (nomatch hf), fun r z hr hz => ?_⟩
  subst hr
  obtain rfl := Option.some.inj hz
  omega

theorem keeps_startState (cause : RestartCause) (service : Bool) (waiting : List Instr) (s : State) :
    Keeps s.begin (startState s.image cause service waiting) := by
  have channel (h : Hoist) : (startState s.image cause service waiting).channels.get h
      = startChannel ((startState s.image cause service waiting).tables.calibration.get h) := by
    cases h <;> rfl
  refine ⟨⟨fun h _ => ?_, fun h _ => ?_⟩, rfl⟩ <;> rw [channel]
  · exact (startChannel_inRange _).1
  · exact (startChannel_inRange _).2

/-- What a command is: a management request, a frame or a payload that may spell one, the completion of a save, or an
event that keeps the masses, the zeros and the image. -/
theorem exec_cases {i : Instr} {s t : State} (h : exec i s = .next t) :
    Keeps s.begin t ∨ (∃ code, managementCode i = some code)
      ∨ (∃ bytes f, i = .upstreamFrame bytes ∧ parseFrame bytes = some f
          ∧ managementRequest ⟨f.src, f.seq⟩ f.code f.payload s = .next t)
      ∨ (∃ q code p, i = .unassignedManagementCode q code p ∧ managementRequest q code p s = .next t)
      ∨ (i = .saveCompletion ∧ t = completeSave s.begin) := by
  have event {u : State} {r : Prop} (hu : Keeps s.begin u)
      (e : Host.Outcome.next (φ := Fault) (ρ := Refusal) u = .next t) : Keeps s.begin t ∨ r := by
    injection e with e
    exact .inl (e ▸ hu)
  cases hc : managementCode i with
  | some code => exact .inr (.inl ⟨code, rfl⟩)
  | none =>
    cases i with
    | upstreamFrame bytes =>
      rcases exec_upstreamFrame_cases h with hk | ⟨f, hp, hr⟩
      · exact .inl hk
      · exact .inr (.inr (.inl ⟨bytes, f, rfl, hp, hr⟩))
    | unassignedManagementCode q code p => exact .inr (.inr (.inr (.inl ⟨q, code, p, rfl, h⟩)))
    | saveCompletion => exact .inr (.inr (.inr (.inr ⟨rfl, (Host.Outcome.next.inj h).symm⟩)))
    | downstreamFrame p bytes => exact event (keeps_receiveDown p bytes _) h
    | replyTimerExpiry p => exact event (keeps_replyTimeout p _) h
    | recoveryTimerExpiry p => exact event (keeps_recoveryExpired p _) h
    | isolationStopTimerExpiry x => exact event (keeps_stopTimerExpired x _) h
    | restartHoldExpiry p => exact event (keeps_restartHoldExpired p _) h
    | commandTimerExpiry x => exact event (keeps_commandTimerExpired x _) h
    | drainDwellExpiry x => exact event (keeps_drainDwellExpiry x s) h
    | weighTimerExpiry x => exact event (keeps_weighTimerExpiry x s) h
    | jigWeighTimerExpiry x => exact event (keeps_jigWeighTimerExpiry x s) h
    | pollTimerExpiry => exact event (keeps_pollTimerExpiry s) h
    | staleExpiry fig => exact event (keeps_staleExpiry fig s) h
    | deviceReset cause service => exact event ((keeps_startState cause service _ s).trans (keeps_pollDue _)) h
    | _ => nomatch hc

/-- Every command keeps the masses and the zeros. -/
theorem exec_weighs {i : Instr} {s t : State} (h : exec i s = .next t) : Weighs s.begin t := by
  rcases exec_cases h with hk | ⟨code, hc⟩ | ⟨_, f, rfl, _, hr⟩ | ⟨q, code, p, rfl, hr⟩ | ⟨rfl, rfl⟩
  · exact hk.toWeighs
  · exact weighs_management hc h
  · exact weighs_managementRequest hr
  · exact weighs_managementRequest hr
  · exact weighs_completeSave _

theorem step_weighs {s t : State} (h : step s = .next t) : Weighs s t := by
  unfold step at h
  split at h
  · have hw := exec_weighs h
    exact ⟨hw.masses, hw.zeros⟩
  · cases h
    exact .of_same rfl rfl

/-- Settles O58: a sample clamps what it converts and what it tracks, LOAD CALIBRATION, REZERO HOOK and start-up seed
both in range, and nothing else touches them (`exec_weighs`). -/
theorem everyStepKeepsTheMassesAndTheZeros : Obligations.EveryStepKeepsTheMassesAndTheZeros := by
  refine ⟨fun s t hs h => ?_, fun s t hs h => ?_⟩
  · rw [massesInRange_iff] at hs ⊢
    exact fun x => (step_weighs h).masses x (hs x)
  · rw [zerosInFence_iff] at hs ⊢
    exact fun x => (step_weighs h).zeros x (hs x)

/-! ## The store (R172 to R175) -/

/-- SAVE TABLES starts a save, unless one is in flight (R173). -/
theorem exec_saveTables (q : Req) (s : State) :
    exec (.saveTables q) s = .next (checked q 0x82 [(s.save.isSome, .busy)] [] s (startSave s)) :=
  manage_checked_stored q 0x82 (fun s => accept (startSave s)) [] [] s (startSave s) rfl

theorem completeSave_none {s : State} (h : s.save = none) : completeSave s = s := by simp only [completeSave, h]

/-- A command that starts no save, completes none and spells neither request that starts one leaves the image. -/
theorem exec_image {i : Instr} {s t : State} (hw : i.wellFormed = true) (hs : ∀ q, i ≠ .saveTables q)
    (hl : ∀ q, i ≠ .lockCalibration q) (hc : i ≠ .saveCompletion)
    (hf : ∀ bytes f, i = .upstreamFrame bytes → parseFrame bytes = some f → f.code ≠ 0x82 ∧ f.code ≠ 0x91)
    (h : exec i s = .next t) : t.image = s.image := by
  rcases exec_cases h with hk | ⟨code, hm⟩ | ⟨bytes, f, rfl, hp, hr⟩ | ⟨q, code, p, rfl, hr⟩ | ⟨e, _⟩
  · exact hk.image
  · exact image_management hm hs hl h
  · obtain ⟨h82, h91⟩ := hf bytes f rfl hp
    exact image_managementRequest h82 h91 hr
  · simp only [Instr.wellFormed, Bool.and_eq_true, Bool.not_eq_true'] at hw
    rw [managementRequest_bad q s hw.2] at hr
    cases hr
    rfl
  · exact absurd e hc

/-- Settles O6: the request and the completion by their definitions, and every other command by `exec_image`. -/
theorem saveSnapshotsAndCompletes : Obligations.SaveSnapshotsAndCompletes := by
  have completes (s u : State) (h : completeSave s.begin = u) : exec .saveCompletion s = .next u :=
    congrArg Host.Outcome.next h
  refine ⟨exec_saveTables, fun s x hx => completes s _ ?_, fun s hn => completes s _ ?_, fun i s t => exec_image⟩
  · simp only [completeSave, State.begin_save, hx]
    rfl
  · exact completeSave_none hn

end Sys2Proof.Machine
end

section
/-! The stages of a weighing channel in the terms of R51 to R56, a telemetry sample taken whole (R50 to R57, R76), and
the figures that a dip is followed by (R72, R98, R111, R112). -/

namespace Sys2Proof.Machine

/-! ## Conversion and filter (R51, R52) -/

/-- The rounded quotient by 65,536 is a nearest whole number, and of two the one further from zero. -/
theorem roundDiv_nearest (n : Int) :
    2 * (65536 * roundDiv n 65536 - n).natAbs ≤ 65536
      ∧ (2 * (65536 * roundDiv n 65536 - n).natAbs = 65536 → n.natAbs < 65536 * (roundDiv n 65536).natAbs) := by
  unfold roundDiv
  split <;> omega

/-- A step goes nowhere, up or down as the difference does, by the truncated quotient and at least one unit. -/
theorem minStep_sub_cases (m f : Int) (n : Nat) : (m = f → minStep (m - f) n = 0)
    ∧ (f < m → minStep (m - f) n = max 1 ((m - f) / n)) ∧ (m < f → minStep (m - f) n = -max 1 ((f - m) / n)) := by
  refine ⟨fun h => by simp [h], fun h => minStep_pos n (by omega), fun h => ?_⟩
  rw [← neg_sub f m, minStep_neg, minStep_pos n (by omega)]

theorem clampInt_ne {lo hi : Int} (x : Int) (h : lo ≤ hi) :
    (clampInt lo hi x != x) = decide (x < lo ∨ hi < x) := by
  rw [Bool.eq_iff_iff, bne_iff_ne, decide_eq_true_iff]
  unfold clampInt
  omega

/-- The mass of a count, clamped (R51). -/
def clampedMass (c : Channel) (r : CalRecord) (count : Int) : Int :=
  clampInt Config.massMin Config.massMax (rawMass count (c.zero.getD r.zero) r.gain)

/-- The first sample seeds f with the mass (R52). -/
theorem convert_filtered_none {c : Channel} (r : CalRecord) (count : Int) (hf : c.filtered = none) :
    (c.convert r count).filtered = some (clampedMass c r count) := by
  simp only [Channel.convert, hf, clampedMass]

theorem convert_filtered_some {c : Channel} {f : Int} (r : CalRecord) (count : Int) (hf : c.filtered = some f) :
    (c.convert r count).filtered = some (f + minStep (clampedMass c r count - f) (2 ^ r.shift)) := by
  simp only [Channel.convert, hf, clampedMass]

/-- Mass and over-range indication of a conversion with a known hook zero (R51). -/
theorem convert_eq {c : Channel} {z : Int} (r : CalRecord) (count : Int) (hz : c.zero = some z) :
    c.convert r count = { c with
      mass := some (clampedMass c r count)
      overRange := decide (rawMass count z r.gain < -10000 ∨ 400000 < rawMass count z r.gain)
      filtered := (c.convert r count).filtered } := by
  have outside : (clampedMass c r count != rawMass count z r.gain)
      = decide (rawMass count z r.gain < -10000 ∨ 400000 < rawMass count z r.gain) := by
    simp only [clampedMass, hz, Option.getD_some]
    exact clampInt_ne _ (by decide)
  rw [← outside]
  simp only [Channel.convert, clampedMass, hz, Option.getD_some]

/-! ## Settling, overload and zero tracking (R53, R54, R56) -/

theorem settleStage_eq {c : Channel} {m f : Int} (r : CalRecord) (hm : c.mass = some m) (hf : c.filtered = some f) :
    c.settleStage r = { c with
      settle := if c.overRange = false ∧ (m - f).natAbs ≤ r.settleBand then min 255 (c.settle + 1) else 0 } := by
  simp only [Channel.settleStage, hm, hf, Option.getD_some, Bool.and_eq_true, Bool.not_eq_true', decide_eq_true_eq]

theorem overloadStage_eq {c : Channel} {f : Int} (r : CalRecord) (hf : c.filtered = some f) :
    c.overloadStage r = { c with
      overload := if c.overload then decide ((r.overThreshold : Int) - r.overHyst ≤ f)
        else decide ((r.overThreshold : Int) < f) } := by
  simp only [Channel.overloadStage, hf, Option.getD_some, ← decide_not, not_lt]

theorem trackStage_tracks {c : Channel} {r : CalRecord} {t : Telemetry} {f z : Int} (hf : c.filtered = some f)
    (hz : c.zero = some z) (hb : f.natAbs ≤ r.zeroBand) (hm : t.moving = false) :
    c.trackStage r t true = { c with
      zero := some (max (r.zero - r.trackRange) (min (r.zero + r.trackRange) (z + minStep (t.count - z) 4096))) } := by
  simp [Channel.trackStage, hf, hz, hb, hm, trackZero, clampInt]

theorem trackStage_rests {c : Channel} {r : CalRecord} {t : Telemetry} {f : Int} {idle : Bool}
    (hf : c.filtered = some f) (h : idle = false ∨ r.zeroBand < f.natAbs ∨ t.moving = true) :
    c.trackStage r t idle = c := by
  unfold Channel.trackStage
  refine if_neg ?_
  rcases h with h | h | h
  · simp [h]
  · simp [hf, h]
  · simp [h]

/-- Settles O53, stage by stage. -/
theorem channelStagesOfAConvertedSample : Obligations.ChannelStagesOfAConvertedSample := by
  refine ⟨?_, ?_, ?_⟩
  · rintro count zero gain _ _ rfl rfl
    exact roundDiv_nearest _
  · rintro c _ r count z _ hz rfl rfl
    have hm : max (-10000) (min 400000 (rawMass count z r.gain)) = clampedMass c r count := by
      simp only [clampedMass, hz, Option.getD_some]
      rfl
    rw [hm]
    refine ⟨convert_eq r count hz, convert_filtered_none r count, fun f hf => ⟨_, convert_filtered_some r count hf, ?_⟩⟩
    simpa using minStep_sub_cases (clampedMass c r count) f (2 ^ r.shift)
  · intro c r t idle m f z hm hf hz
    refine ⟨settleStage_eq r hm hf, overloadStage_eq r hf, ?_, trackStage_rests hf⟩
    rintro rfl hb hs
    exact ⟨_, trackStage_tracks hf hz hb hs, minStep_sub_cases t.count z 4096⟩

/-! ## A telemetry sample (R50, R57, R76) -/

theorem setNoticeIf_overload (b : Bool) (s : State) :
    setNoticeIf b .overload s = { s with notices := { s.notices with overload := s.notices.overload || b } } := by
  cases b
  · simp only [setNoticeIf, Bool.or_false]
    rfl
  · simp only [setNoticeIf, Bool.or_true]
    rfl

theorem inDip_iff (st : DipState) : st.inDip = true ↔ st ∉ [.idle, .jigWeigh, .abandoned] := by
  cases st <;> decide

theorem inBath_iff (st : DipState) : st.inBath = true ↔ st ∈ [.entering, .immersed, .withdrawing] := by
  cases st <;> decide

/-- Overload of a dip is overload of either channel of a pair driven as one, and else of its own (R76, R111). -/
theorem dipOverload_iff (h : Hoist) (s : State) : dipOverload h s = true
    ↔ (s.channels.get h).overload = true ∨ joint s = true ∧ (s.channels.get h.other).overload = true := by
  unfold dipOverload
  split
  · next hj => cases h <;> simp [hj, Hoist.other, or_comm]
  · next hj => simp [hj]

theorem markOverload_eq (h : Hoist) (s : State) : markOverload h s
    = if (s.contexts.get h).state ∉ [.idle, .jigWeigh, .abandoned]
          ∧ ((s.channels.get h).overload = true ∨ joint s = true ∧ (s.channels.get h.other).overload = true)
        then changeDip h (fun c => { c with flags := { c.flags with overloadSeen := true } }) s else s := by
  simp only [markOverload, Bool.and_eq_true, inDip_iff, dipOverload_iff, modContexts_members]

/-- Out of the bath a sample updates nothing more (R86). -/
theorem inBathUpdates_outside {h : Hoist} {s : State} (found : DipState)
    (ho : (s.contexts.get h).state ∉ [.entering, .immersed, .withdrawing]) : inBathUpdates h found s = s := by
  rw [← inBath_iff] at ho
  unfold inBathUpdates
  split
  · exact if_neg ho
  · rfl

/-- Settles O54: the channel's stages are `Channel.sample`'s own, and the context's steps those of `contextSample`. -/
theorem telemetrySamplesAreTakenWhole : Obligations.TelemetrySamplesAreTakenWhole := by
  refine ⟨?_, ?_, ?_, ?_⟩
  · rintro c _ t idle now rfl
    exact ⟨rfl, fun r ht => if_neg (by simp [ht]), fun r ht => if_pos ht⟩
  · rintro h t s _ rfl
    simp only [takeSample, setNoticeIf_overload]
    rfl
  · rintro h s _ _ _ rfl rfl rfl
    rw [← markOverload_eq, contextSample]
    split
    · rfl
    · next ho => rw [inBathUpdates_outside _ ho]
  · intro h s hs
    simp only [List.mem_cons, List.not_mem_nil, or_false] at hs
    unfold transitionTest
    rcases hs with e | e | e <;> simp only [e]

/-! ## The figures of a dip (R72, R98, R111, R112) -/

theorem ownBottom_some {h : Hoist} {s : State} {tg : TagArgs} {x : HookHeight} (ht : (s.contexts.get h).tag = some tg)
    (hx : (s.channels.get h).height = some x) :
    ownBottom h s = some (x.height + (s.tables.hoists.get h).offset - tg.loadDepth) := by
  simp only [ownBottom, hookHeight, ht, hx, Option.map_some]

theorem ownTop_some {h : Hoist} {s : State} {tg : TagArgs} {b : Int} (ht : (s.contexts.get h).tag = some tg)
    (hb : ownBottom h s = some b) : ownTop h s = some (b + tg.workHeight) := by
  simp only [ownTop, ht, hb]

theorem ownBottom_none {h : Hoist} {s : State}
    (hn : (s.contexts.get h).tag = none ∨ (s.channels.get h).height = none) : ownBottom h s = none := by
  unfold ownBottom hookHeight
  rcases hn with e | e <;> simp [e]

theorem ownTop_none {h : Hoist} {s : State} (hb : ownBottom h s = none) : ownTop h s = none := by
  simp [ownTop, hb]

theorem channelSettled_iff (h : Hoist) (s : State) : channelSettled h s = true
    ↔ ∃ r f, s.tables.calibration.get h = some r ∧ (s.channels.get h).filtered = some f
      ∧ r.settleCount ≤ (s.channels.get h).settle := by
  unfold channelSettled
  cases s.tables.calibration.get h <;> cases (s.channels.get h).filtered <;> simp

theorem channelStill_iff (h : Hoist) (s : State) :
    channelStill h s = true ↔ ∃ b, (s.channels.get h).block = some b ∧ b.moving = false := by
  unfold channelStill
  cases (s.channels.get h).block <;> simp

theorem joint_iff (s : State) :
    joint s = true ↔ ∀ h : Hoist, (s.contexts.get h).pair = .paired ∧ (s.contexts.get h).state ≠ .abandoned := by
  simp only [joint, Bool.and_eq_true, beq_iff_eq, bne_iff_ne]
  constructor
  · rintro ⟨⟨⟨p1, p2⟩, a1⟩, a2⟩ h
    cases h
    · exact ⟨p1, a1⟩
    · exact ⟨p2, a2⟩
  · exact fun hj => ⟨⟨⟨(hj .h1).1, (hj .h2).1⟩, (hj .h1).2⟩, (hj .h2).2⟩

/-- Two parts combined are there exactly when both are (R111). -/
theorem both_eq_some_iff {f : Int → Int → Int} {x y : Option Int} {v : Int} :
    both f x y = some v ↔ ∃ a b, x = some a ∧ y = some b ∧ v = f a b := by
  cases x <;> cases y <;> simp [both, eq_comm]

/-- Values joined one after another by `max`, from nothing on, give the greatest. -/
theorem foldl_eq_max? {α : Type} (g : α → Int) (f : Option Int → α → Option Int) (first : ∀ a, f none a = some (g a))
    (next : ∀ x a, f (some x) a = some (max x (g a))) (l : List α) : l.foldl f none = (l.map g).max? := by
  have rest (l : List α) (x : Int) : l.foldl f (some x) = some ((l.map g).foldl max x) := by
    induction l generalizing x with
    | nil => rfl
    | cons a l ih => rw [List.foldl_cons, next, ih, List.map_cons, List.foldl_cons]
  cases l with
  | nil => rfl
  | cons a l => rw [List.foldl_cons, first, rest, List.map_cons, List.max?_cons']

theorem highestDross_eq (first last : Nat) (m : ZoneMap) : highestDross first last m
    = ((Zone.all.filter (inSet first last)).map (fun z => (m.zones.get z).ceiling)).max? :=
  foldl_eq_max? _ _ (fun _ => rfl) (fun _ _ => rfl) _

theorem mem_zonesOfSet {first last : Nat} {z : Zone} :
    z ∈ Zone.all.filter (inSet first last) ↔ first ≤ z.num ∧ z.num ≤ last := by
  have all : z ∈ Zone.all := by cases z <;> decide
  simp [List.mem_filter, all, inSet]

theorem highestDross_eq_some_iff (first last : Nat) (m : ZoneMap) (x : Int) : highestDross first last m = some x
    ↔ (∃ z : Zone, first ≤ z.num ∧ z.num ≤ last ∧ (m.zones.get z).ceiling = x)
      ∧ ∀ z : Zone, first ≤ z.num → z.num ≤ last → (m.zones.get z).ceiling ≤ x := by
  rw [highestDross_eq, List.max?_eq_some_iff, List.forall_mem_map]
  simp only [List.mem_map, mem_zonesOfSet, and_assoc, and_imp]

theorem highestDross_eq_none_iff (first last : Nat) (m : ZoneMap) : highestDross first last m = none
    ↔ ∀ z : Zone, ¬ (first ≤ z.num ∧ z.num ≤ last) := by
  rw [highestDross_eq, List.max?_eq_none_iff, List.map_eq_nil_iff, List.eq_nil_iff_forall_not_mem]
  simp only [mem_zonesOfSet]

/-- Settles O55: a single dip reads its own hoist's figures, a pair both, and the dross ceilings by their `max?`. -/
theorem loadGeometryAndPairValues : Obligations.LoadGeometryAndPairValues := by
  refine ⟨fun h s => ⟨rfl, fun tg x ht hx => ?_, fun hn => ?_, channelSettled_iff h s, channelStill_iff h s⟩, joint_iff,
    fun h s hj => ?_, fun h s hj => ?_, fun first last m =>
      ⟨highestDross_eq_some_iff first last m, highestDross_eq_none_iff first last m⟩⟩
  · have hb := ownBottom_some ht hx
    exact ⟨hb, ownTop_some ht hb⟩
  · have hb := ownBottom_none hn
    exact ⟨hb, ownTop_none hb⟩
  · simp [dipBottom, dipTop, dipFiltered, dipSettled, dipStill, hj]
  · simp only [dipBottom, dipTop, dipFiltered, dipSettled, dipStill, hj, if_true, both_eq_some_iff, Bool.and_eq_true,
      implies_true, and_self]

end Sys2Proof.Machine
end

section
/-! The requests that load, lock and rezero a calibration, and that load and remove profiles and jigs, by their checks
in order (R44 to R46, R58, R61 to R67). -/

namespace Sys2Proof.Machine

/-! ## Checks in order -/

/-- What a rule answers that makes its checks in order, and then has its effect `s'`. -/
def answerOf (checks : List (Bool × Status)) (s s' : State) : Answer :=
  match firstFailure checks with
  | some st => refuse st s
  | none => accept s'

theorem answerOf_nil (s s' : State) : answerOf [] s s' = accept s' := rfl

theorem answerOf_cons (b : Bool) (st : Status) (checks : List (Bool × Status)) (s s' : State) :
    answerOf ((b, st) :: checks) s s' = if b then refuse st s else answerOf checks s s' := by
  cases b <;> rfl

theorem answerOf_decide (p : Prop) [Decidable p] (st : Status) (checks : List (Bool × Status)) (s s' : State) :
    answerOf ((decide p, st) :: checks) s s' = if p then refuse st s else answerOf checks s s' := by
  by_cases hp : p <;> simp [answerOf_cons, hp]

/-- Checks that refuse with one status are one check. -/
theorem answerOf_group (st : Status) (bs : List Bool) (checks : List (Bool × Status)) (s s' : State) :
    answerOf (bs.map (·, st) ++ checks) s s' = if bs.any id then refuse st s else answerOf checks s s' := by
  rw [answerOf, firstFailure_append, firstFailure_uniform]
  cases bs.any id <;> rfl

theorem manage_answerOf {q : Req} {code : Byte} {rule : State → Answer} {checks : List (Bool × Status)} {s s' : State}
    (h : rule s.begin = answerOf checks s.begin s'.begin) :
    manage q code false rule s = .next (checked q code checks [] s s') := manage_checked q code rule checks [] s s' h

theorem manage_answerOf_stored {q : Req} {code : Byte} {rule : State → Answer} {checks : List (Bool × Status)}
    {s s' : State} (h : rule s.begin = answerOf checks s.begin s'.begin) :
    manage q code true rule s = .next (checked q code ((s.save.isSome, .busy) :: checks) [] s s') :=
  manage_checked_stored q code rule checks [] s s' h

theorem withinInt_eq (lo hi x : Int) : withinInt lo hi x = !decide (x < lo ∨ hi < x) := by
  rw [Bool.eq_iff_iff]
  simp [withinInt]

/-! ## Calibration (R44 to R46, R58) -/

/-- A calibration record lies in range where no check of LOAD CALIBRATION's ranges fails (R44). -/
theorem calOk_eq (x : CalRecord) : calOk x = !([
    decide (x.zero < -8388608 ∨ 8388607 < x.zero ∨ x.gain < 1 ∨ 65535 < x.gain ∨ 65535 < x.trackRange),
    decide (5000 < x.zeroBand ∨ x.shift < 1 ∨ 7 < x.shift ∨ x.settleBand < 1 ∨ 5000 < x.settleBand),
    decide (x.settleCount < 2 ∨ 64 < x.settleCount ∨ 400000 < x.overThreshold ∨ 20000 < x.overHyst)].any id) := by
  rw [Bool.eq_iff_iff]
  simp [calOk, within, withinInt]
  omega

/-- LOAD CALIBRATION (R45). -/
theorem exec_loadCalibration (q : Req) (h : Hoist) (x : CalRecord) (s : State) :
    exec (.loadCalibration q h.num x) s = .next (checked q 0x90
    [(s.save.isSome, .busy), (s.tables.calibrationLock, .locked),
     (decide ((s.contexts.get h).state ≠ .idle), .notAllowed),
     (decide (x.zero < -8388608 ∨ 8388607 < x.zero ∨ x.gain < 1 ∨ 65535 < x.gain ∨ 65535 < x.trackRange), .outOfRange),
     (decide (5000 < x.zeroBand ∨ x.shift < 1 ∨ 7 < x.shift ∨ x.settleBand < 1 ∨ 5000 < x.settleBand), .outOfRange),
     (decide (x.settleCount < 2 ∨ 64 < x.settleCount ∨ 400000 < x.overThreshold ∨ 20000 < x.overHyst), .outOfRange)]
    [] s { s with
      tables := { s.tables with calibration := s.tables.calibration.set h (some x) }
      channels := s.channels.set h { s.channels.get h with
        zero := some x.zero, filtered := none, settle := 0, overload := false, mass := none, overRange := false } }) := by
  refine manage_answerOf_stored (rule := loadCalibrationRule h.num x) ?_
  simp only [loadCalibrationRule, hoistOf_num, calOk_eq, Bool.not_not]
  rw [← answerOf_nil s.begin, ← answerOf_group, ← answerOf_decide, ← answerOf_cons]
  rfl

/-- LOCK CALIBRATION of a locked part changes nothing (R46). -/
theorem exec_lockCalibration_locked (q : Req) (s : State) (hl : s.tables.calibrationLock = true) :
    exec (.lockCalibration q) s = .next (checked q 0x91 [(s.save.isSome, .busy)] [] s s) :=
  manage_answerOf_stored (rule := lockCalibrationRule) (checks := []) (if_pos hl)

/-- LOCK CALIBRATION sets the lock and starts a save of it (R46, R173). -/
theorem exec_lockCalibration (q : Req) (s : State) (hl : s.tables.calibrationLock = false) :
    exec (.lockCalibration q) s = .next (checked q 0x91
      [(s.save.isSome, .busy), (s.tables.calibration.h1.isNone || s.tables.calibration.h2.isNone, .notCalibrated)]
      [] s { s with
        tables := { s.tables with calibrationLock := true }
        save := some { snapshot := { s.tables with calibrationLock := true }, deadline := s.now + 400 }
        image := none }) := by
  refine manage_answerOf_stored (rule := lockCalibrationRule) ?_
  have hb : ¬ s.begin.tables.calibrationLock = true := by simp [hl]
  rw [lockCalibrationRule, if_neg hb, answerOf_cons]
  rfl

/-- What REZERO HOOK's third check asks of a channel that holds a block (R58). -/
theorem rezeroAllowed_eq {h : Hoist} {b : Block} {s : State} (hb : (s.channels.get h).block = some b) :
    rezeroAllowed h s = if [decide ((s.contexts.get h).state ≠ .idle), b.moving, !b.loadValid].any id then none
      else some b := by
  unfold rezeroAllowed
  rw [hb]
  split
  · next b' hi e =>
    obtain rfl := Option.some.inj e
    rw [hi]
    cases b.moving <;> cases b.loadValid <;> rfl
  · next hx =>
    have hi : (s.contexts.get h).state ≠ .idle := fun hi => hx b hi rfl
    simp [hi]

theorem rezeroAllowed_none {h : Hoist} {s : State} (hb : (s.channels.get h).block = none) :
    rezeroAllowed h s = none := by
  unfold rezeroAllowed
  rw [hb]
  cases (s.contexts.get h).state <;> rfl

/-- REZERO HOOK of a calibrated hoist with a telemetry block (R58). -/
theorem exec_rezeroHook (q : Req) (h : Hoist) (r : CalRecord) (b : Block) (s : State)
    (hr : s.tables.calibration.get h = some r) (hb : (s.channels.get h).block = some b) :
    exec (.rezeroHook q h.num) s = .next (checked q 0x92
      [(decide ((s.contexts.get h).state ≠ .idle), .notAllowed), (b.moving, .notAllowed), (!b.loadValid, .notAllowed),
       (decide (b.count < r.zero - r.trackRange ∨ r.zero + r.trackRange < b.count), .outOfRange)]
      [] s { s with channels := s.channels.set h { s.channels.get h with
        zero := some b.count, filtered := none, settle := 0 } }) := by
  refine manage_answerOf (rule := rezeroHookRule h.num) ?_
  refine Eq.trans ?_ (answerOf_group .notAllowed [_, _, _] [(_, .outOfRange)] s.begin _).symm
  have allowed : rezeroAllowed h s.begin
      = if [decide ((s.contexts.get h).state ≠ .idle), b.moving, !b.loadValid].any id then none else some b :=
    rezeroAllowed_eq hb
  simp only [rezeroHookRule, hoistOf_num, State.begin_tables, hr, allowed]
  cases [decide ((s.contexts.get h).state ≠ .idle), b.moving, !b.loadValid].any id
  · simp only [Bool.false_eq_true, if_false, withinInt_eq, ite_not_accept, answerOf_cons, answerOf_nil]
    rfl
  · rfl

theorem exec_rezeroHook_uncalibrated (q : Req) (h : Hoist) (s : State) (hr : s.tables.calibration.get h = none) :
    exec (.rezeroHook q h.num) s = .next (answered q 0x92 .notCalibrated [] s s) := by
  refine manage_refused q 0x92 (rezeroHookRule h.num) _ s ?_
  simp only [rezeroHookRule, hoistOf_num, State.begin_tables, hr]

theorem exec_rezeroHook_noBlock (q : Req) (h : Hoist) (s : State) (hr : (s.tables.calibration.get h).isSome = true)
    (hb : (s.channels.get h).block = none) :
    exec (.rezeroHook q h.num) s = .next (answered q 0x92 .notAllowed [] s s) := by
  obtain ⟨r, hr⟩ := Option.isSome_iff_exists.1 hr
  refine manage_refused q 0x92 (rezeroHookRule h.num) _ s ?_
  simp only [rezeroHookRule, hoistOf_num, State.begin_tables, hr, rezeroAllowed_none (s := s.begin) hb]

/-! ## Profiles (R61 to R63) -/

/-- A profile lies in range where no check of LOAD PROFILE's ranges fails, a buoyancy of 0 taken as 841 (R61, R62). -/
theorem profileOk_eq (x : Profile) : profileOk (profileOf x) = !([
    decide (600 < x.approachSpeed ∨ 600 < x.entrySpeed ∨ 600 < x.withdrawSpeed ∨ 600 < x.drainSpeed),
    decide (500 < x.coverDepth ∨ x.minDwell < 1 ∨ 6000 < x.minDwell ∨ 3000 < x.drainDwell),
    decide (x.weighTimeout < 50 ∨ 1200 < x.weighTimeout ∨ 20000 < x.floatMargin),
    decide (x.groundFraction < 10 ∨ 500 < x.groundFraction),
    decide (x.buoyancy ≠ 0 ∧ (x.buoyancy < 600 ∨ 900 < x.buoyancy))].any id) := by
  have buoyancy : within 600 900 (profileOf x).buoyancy
      = !decide (x.buoyancy ≠ 0 ∧ (x.buoyancy < 600 ∨ 900 < x.buoyancy)) := by
    simp only [profileOf]
    split
    · next h => simp [h, within, Config.defaultBuoyancy]
    · next h => simp [h, within_eq]
  rw [profileOk, buoyancy, Bool.eq_iff_iff]
  simp only [within, Bool.and_eq_true, decide_eq_true_eq]
  simp [profileOf]
  omega

/-- LOAD PROFILE (R62). -/
theorem exec_loadProfile (q : Req) (n : Nat) (x : Profile) (s : State) :
    exec (.loadProfile q n x) s = .next (checked q 0x98
    [(s.save.isSome, .busy), (decide (n < 1 ∨ 16 < n), .outOfRange),
     (decide (600 < x.approachSpeed ∨ 600 < x.entrySpeed ∨ 600 < x.withdrawSpeed ∨ 600 < x.drainSpeed), .outOfRange),
     (decide (500 < x.coverDepth ∨ x.minDwell < 1 ∨ 6000 < x.minDwell ∨ 3000 < x.drainDwell), .outOfRange),
     (decide (x.weighTimeout < 50 ∨ 1200 < x.weighTimeout ∨ 20000 < x.floatMargin), .outOfRange),
     (decide (x.groundFraction < 10 ∨ 500 < x.groundFraction), .outOfRange),
     (decide (x.buoyancy ≠ 0 ∧ (x.buoyancy < 600 ∨ 900 < x.buoyancy)), .outOfRange),
     ((findProfile n s).isSome && anyTag (fun t => t.profile == n) s, .inUse)]
    [] s { s with tables := { s.tables with
      profiles := s.tables.profiles.setIfInBounds (n - 1)
        (some { x with buoyancy := if x.buoyancy = 0 then 841 else x.buoyancy }) } }) := by
  refine manage_answerOf_stored (rule := loadProfileRule n x) ?_
  simp only [loadProfileRule, within_eq, profileOk_eq, profileUsers, hoistsTagged_isEmpty, Bool.not_not]
  rw [← answerOf_nil s.begin, ← answerOf_cons, ← answerOf_group, ← answerOf_cons]
  rfl

/-- REMOVE PROFILE (R63). -/
theorem exec_removeProfile (q : Req) (n : Nat) (s : State) : exec (.removeProfile q n) s = .next (checked q 0x99
    [(s.save.isSome, .busy), (decide (n < 1 ∨ 16 < n), .outOfRange), ((findProfile n s).isNone, .notFound),
     (anyTag (fun t => t.profile == n) s, .inUse)]
    [] s { s with tables := { s.tables with profiles := s.tables.profiles.setIfInBounds (n - 1) none } }) := by
  refine manage_answerOf_stored (rule := removeProfileRule n) ?_
  simp only [removeProfileRule, within_eq, profileUsers, hoistsTagged_isEmpty, Bool.not_not]
  rw [← answerOf_nil s.begin, ← answerOf_cons, ← answerOf_cons, ← answerOf_cons]
  rfl

/-! ## Jigs (R64 to R67) -/

theorem jigArgsOk_eq (n tare allowance : Nat) :
    jigArgsOk n tare allowance = !decide (n < 1 ∨ 4095 < n ∨ 100000 < tare ∨ 5000 < allowance) := by
  rw [Bool.eq_iff_iff]
  simp only [jigArgsOk, within, Bool.and_eq_true, decide_eq_true_eq]
  simp [Config.tareMax]
  omega

/-- LOAD JIG of a jig in the table keeps its status and clears its counts (R65). -/
theorem exec_loadJig (q : Req) (n tare allowance : Nat) (s : State) (hj : (findJig n s).isSome = true) :
    exec (.loadJig q n tare allowance) s = .next (checked q 0x9C
      [(s.save.isSome, .busy), (decide (n < 1 ∨ 4095 < n ∨ 100000 < tare ∨ 5000 < allowance), .outOfRange),
       (jigInUse n s, .inUse)]
      [] s { s with tables := { s.tables with
        jigs := s.tables.jigs.map
          (fun j => if j.id = n then { j with tare, allowance, dips := 0, zinc := 0 } else j) } }) := by
  obtain ⟨j, hj⟩ := Option.isSome_iff_exists.1 hj
  have hb : findJig n s.begin = some j := hj
  refine manage_answerOf_stored (rule := loadJigRule n tare allowance) ?_
  simp only [loadJigRule, jigArgsOk_eq, hb, jigUsers_isEmpty, Bool.not_not]
  rw [← answerOf_nil s.begin, ← answerOf_cons, ← answerOf_cons]
  rfl

/-- LOAD JIG of a new jig needs a free place of the 64 (R65). -/
theorem exec_loadJig_new (q : Req) (n tare allowance : Nat) (s : State) (hj : findJig n s = none) :
    exec (.loadJig q n tare allowance) s = .next (checked q 0x9C
      [(s.save.isSome, .busy), (decide (n < 1 ∨ 4095 < n ∨ 100000 < tare ∨ 5000 < allowance), .outOfRange),
       (decide (64 ≤ s.tables.jigs.length), .full)]
      [] s { s with tables := { s.tables with jigs := s.tables.jigs ++ [⟨n, tare, allowance, 0, 0, .inService⟩] } }) := by
  have hb : findJig n s.begin = none := hj
  refine manage_answerOf_stored (rule := loadJigRule n tare allowance) ?_
  simp only [loadJigRule, jigArgsOk_eq, hb, Bool.not_not]
  rw [← answerOf_nil s.begin, ← answerOf_decide, ← answerOf_cons]
  rfl

/-- WITHDRAW JIG (R66). -/
theorem exec_withdrawJig (q : Req) (n : Nat) (s : State) : exec (.withdrawJig q n) s = .next (checked q 0x9D
    [(s.save.isSome, .busy), ((findJig n s).isNone, .notFound), (jigInUse n s, .inUse)]
    [] s { s with tables := { s.tables with
      jigs := s.tables.jigs.map (fun j => if j.id = n then { j with status := .withdrawn } else j) } }) := by
  refine manage_answerOf_stored (rule := withdrawJigRule n) ?_
  simp only [withdrawJigRule, jigUsers_isEmpty, Bool.not_not]
  rw [← answerOf_nil s.begin, ← answerOf_cons, ← answerOf_cons]
  rfl

/-- RETURN JIG (R66). -/
theorem exec_returnJig (q : Req) (n : Nat) (s : State) : exec (.returnJig q n) s = .next (checked q 0x9E
    [(s.save.isSome, .busy), ((findJig n s).isNone, .notFound)]
    [] s { s with tables := { s.tables with
      jigs := s.tables.jigs.map (fun j => if j.id = n then { j with status := .inService } else j) } }) := by
  refine manage_answerOf_stored (rule := returnJigRule n) ?_
  rw [returnJigRule, ← answerOf_nil s.begin, ← answerOf_cons]
  rfl

/-- REMOVE JIG (R67). -/
theorem exec_removeJig (q : Req) (n : Nat) (s : State) : exec (.removeJig q n) s = .next (checked q 0x9F
    [(s.save.isSome, .busy), ((findJig n s).isNone, .notFound), (jigInUse n s, .inUse)]
    [] s { s with tables := { s.tables with jigs := s.tables.jigs.filter (fun j => j.id != n) } }) := by
  refine manage_answerOf_stored (rule := removeJigRule n) ?_
  simp only [removeJigRule, jigUsers_isEmpty, Bool.not_not]
  rw [← answerOf_nil s.begin, ← answerOf_cons, ← answerOf_cons]
  rfl

/-- Settles O25: the nine requests, each by its own equation. -/
theorem calibrationProfileAndJigRequests : Obligations.CalibrationProfileAndJigRequests := by
  refine ⟨exec_loadCalibration, exec_lockCalibration_locked, exec_lockCalibration, exec_rezeroHook,
    fun q h s => ⟨exec_rezeroHook_uncalibrated q h s, exec_rezeroHook_noBlock q h s⟩, fun q n x s hn => ⟨?_, ?_⟩,
    exec_loadProfile, exec_removeProfile, exec_loadJig, exec_loadJig_new, exec_withdrawJig, exec_returnJig,
    exec_removeJig⟩
  · refine manage_answerOf_stored (rule := loadCalibrationRule n x) (checks := [(true, .outOfRange)]) ?_
    simp only [loadCalibrationRule, hoistOf_none n hn]
    rfl
  · refine manage_refused q 0x92 (rezeroHookRule n) _ s ?_
    simp only [rezeroHookRule, hoistOf_none n hn]

end Sys2Proof.Machine
end

section
/-! What a step can do to the dips and the stored tables: at most one event of a dip, one owning rule or one start-up,
with nothing around it that touches either. -/

namespace Sys2Proof.Machine

/-! ## What stands aside from the dips -/

/-- `t` comes after `s` with the stored tables, the contexts, the zones, the records and the poll mode as they were. -/
structure Aside (s t : State) : Prop where
  tables : t.tables = s.tables
  contexts : t.contexts = s.contexts
  owners : t.owners = s.owners
  waiting : t.waiting = s.waiting
  records : t.records = s.records
  mode : t.bath.mode = s.bath.mode

theorem Aside.refl (s : State) : Aside s s := ⟨rfl, rfl, rfl, rfl, rfl, rfl⟩

theorem Aside.trans {s t u : State} (h : Aside s t) (h' : Aside t u) : Aside s u :=
  ⟨h'.tables.trans h.tables, h'.contexts.trans h.contexts, h'.owners.trans h.owners, h'.waiting.trans h.waiting,
    h'.records.trans h.records, h'.mode.trans h.mode⟩

/-- The later change named first, so that its own form says what came before it. -/
theorem Aside.after {s t u : State} (h' : Aside t u) (h : Aside s t) : Aside s u := h.trans h'

theorem PollOnly.aside {s t : State} (h : PollOnly s t) (hm : t.bath.mode = s.bath.mode) : Aside s t := by
  obtain ⟨l, n, u, b, _, rfl⟩ := h
  exact ⟨rfl, rfl, rfl, rfl, rfl, hm⟩

theorem GeneratedOnly.aside {p : Port} {s t : State} (h : GeneratedOnly p s t) (hm : t.bath.mode = s.bath.mode) :
    Aside s t := by
  obtain ⟨l, n, u, m, b, f, _, rfl⟩ := h
  exact ⟨rfl, rfl, rfl, rfl, rfl, hm⟩

theorem aside_setPort (p : Port) (u : PortUnit) (s : State) : Aside s (s.setPort p u) := ⟨rfl, rfl, rfl, rfl, rfl, rfl⟩

theorem aside_setMotion (h : Hoist) (m : HoistMotion) (s : State) : Aside s (s.setMotion h m) :=
  ⟨rfl, rfl, rfl, rfl, rfl, rfl⟩

theorem aside_setBath {b : BathMonitor} {s : State} (hm : b.mode = s.bath.mode) : Aside s (s.setBath b) :=
  ⟨rfl, rfl, rfl, rfl, rfl, hm⟩

theorem aside_begin (s : State) : Aside s s.begin := ⟨rfl, rfl, rfl, rfl, rfl, rfl⟩

theorem aside_setNoticeIf (c : Bool) (n : Notice) (s : State) : Aside s (setNoticeIf c n s) := by
  cases c <;> exact ⟨rfl, rfl, rfl, rfl, rfl, rfl⟩

/-! ## Generated requests and the link -/

theorem sendStop_bath (h : Hoist) (m : MotionSender) (s : State) : (sendStop h m s).bath = s.bath := by
  cases ha : (s.tables.hoists.get h).station with
  | none => rw [sendStop_none h m s ha]
  | some a => rw [sendStop_some h m a s ha]

theorem sendPoll_mode (s : State) : (sendPoll s).bath.mode = s.bath.mode := by
  unfold sendPoll
  split <;> rfl

/-- A stop leaves the bath monitor alone, and a poll its mode. -/
theorem sendGenerated_mode (p : Port) (g : GenRequest) (s : State) :
    (sendGenerated p g s).bath.mode = s.bath.mode := by
  unfold sendGenerated
  split
  · split
    · exact congrArg BathMonitor.mode (sendStop_bath _ _ s)
    · rfl
  · exact congrArg BathMonitor.mode (sendStop_bath _ _ s)
  · exact sendPoll_mode s
  · rfl

theorem aside_sendStop (h : Hoist) (m : MotionSender) (s : State) : Aside s (sendStop h m s) :=
  (sendStop_generatedOnly h m s).aside (congrArg BathMonitor.mode (sendStop_bath h m s))

theorem aside_sendGenerated (p : Port) (g : GenRequest) (s : State) : Aside s (sendGenerated p g s) :=
  (sendGenerated_generatedOnly p g s).aside (sendGenerated_mode p g s)

theorem aside_generatedDue (p : Port) (g : GenRequest) (s : State) : Aside s (generatedDue p g s) := by
  unfold generatedDue
  split
  · exact aside_sendGenerated p g s
  · exact aside_setPort p _ s

theorem aside_sendPending (p : Port) (s : State) : Aside s (sendPending p s) := by
  unfold sendPending
  split
  · split
    · exact (aside_setPort p _ s).trans (aside_sendGenerated p _ _)
    · exact .refl s
  · exact .refl s

theorem aside_pollDue (s : State) : Aside s (pollDue s) := (pollDue_pollOnly s).aside (pollDue_mode s)

theorem aside_abandonSlot (p : Port) (lc : LocalCode) (s : State) : Aside s (abandonSlot p lc s) := by
  rw [abandonSlot_eq]
  exact ⟨rfl, rfl, rfl, rfl, rfl, rfl⟩

theorem aside_countError (p : Port) (e : PortError) (s : State) : Aside s (countError p e s) :=
  ⟨rfl, rfl, rfl, rfl, rfl, rfl⟩

theorem aside_restartPort (p : Port) (s : State) : Aside s (restartPort p s) := by
  rw [restartPort_eq]
  exact ⟨rfl, rfl, rfl, rfl, rfl, rfl⟩

theorem aside_countHit (i : Nat) (s : State) : Aside s (countHit i s) := ⟨rfl, rfl, rfl, rfl, rfl, rfl⟩

theorem aside_forwardRequest (p : Port) (f : Frame) (s : State) : Aside s (forwardRequest p f s) := by
  unfold forwardRequest
  split <;> exact ⟨rfl, rfl, rfl, rfl, rfl, rfl⟩

theorem aside_routeRequest (f : Frame) (s : State) : Aside s (routeRequest f s) := by
  have answer (lc : LocalCode) (u : State) : Aside u (answerRequest f lc u) := ⟨rfl, rfl, rfl, rfl, rfl, rfl⟩
  unfold routeRequest
  split
  · unfold boundFor
    simp only
    split
    case h_4 =>
      split
      · exact (aside_countHit _ s).trans (answer _ _)
      · exact (aside_countHit _ s).trans (aside_forwardRequest _ f _)
      · exact aside_forwardRequest _ f s
    all_goals exact answer _ s
  · exact answer _ s

theorem aside_broadcast (f : Frame) (s : State) : Aside s (broadcast f s) := by
  have sent (u : State) : Aside u (sendBroadcast f u) := by
    rw [sendBroadcast_eq]
    exact ⟨rfl, rfl, rfl, rfl, rfl, rfl⟩
  unfold broadcast
  split
  · exact aside_countHit _ s
  · exact (aside_countHit _ s).trans (sent _)
  · exact sent s

/-! ## The bath monitor -/

/-- No step of a bath sample changes the poll mode (R122). -/
theorem takeBathSample_mode (r : BathReading) (s : State) : (takeBathSample r s).bath.mode = s.bath.mode := by
  have counted (u : State) : (windowCount r u).bath.mode = u.bath.mode := by
    unfold windowCount
    split
    · rfl
    · split
      · rfl
      · simp only
        split
        · rw [setNoticeIf_bath]; rfl
        · rfl
  have released (u : State) : (bathRelease r u).bath.mode = u.bath.mode := by
    unfold bathRelease
    split <;> rfl
  have quiet (u : State) : (quietSample r u).bath.mode = u.bath.mode := by
    unfold quietSample
    split
    · simp only [setNoticeIf_bath]; rfl
    · rfl
  rw [takeBathSample, quiet, released, counted]
  rfl

theorem aside_takeBathSample (r : BathReading) (s : State) : Aside s (takeBathSample r s) := by
  obtain ⟨b, f, h⟩ := takeBathSample_only r s
  have hm := takeBathSample_mode r s
  rw [h] at hm ⊢
  exact ⟨rfl, rfl, rfl, rfl, rfl, hm⟩

theorem aside_holdStale (s : State) : Aside s (holdStale s) := Aside.after (aside_setNoticeIf _ _ _) (aside_setBath rfl)

theorem aside_staleExpired (fig : BathFigure) (s : State) : Aside s (staleExpired fig s) :=
  Aside.after (aside_holdStale _) (aside_setBath (by cases fig <;> rfl))

/-! ## One event -/

/-- What a command does at most once: a sample at a context, the abort of a dip over the kettle, the expiry of a
context's timer, the rule of a management request, or a start-up. -/
inductive DipEvent : State → State → Prop where
  | rest (s : State) : DipEvent s s
  | sample (h : Hoist) (s : State) : DipEvent s (contextSample h s)
  | abort (h : Hoist) (s : State) (hk : (s.contexts.get h).state.overKettle = true) : DipEvent s (abortDip h s)
  | drain (h : Hoist) (s : State) (hd : (s.contexts.get h).state = .draining) : DipEvent s (drainExpired h s)
  | weigh (h : Hoist) (s : State) (hw : (s.contexts.get h).state = .weighing) : DipEvent s (weighExpired h s)
  | jigWeigh (h : Hoist) (s : State) (hj : (s.contexts.get h).state = .jigWeigh) : DipEvent s (jigWeighExpired h s)
  | request (i : Instr) (s : State) : DipEvent s (ruleOf i s).state
  | restart (s : State) (image : Option StoredImage) (cause : RestartCause) (service : Bool) (waiting : List Instr) :
    DipEvent s (startState image cause service waiting)

/-- One event, and changes aside from the dips before and after it. -/
def OneEvent (s t : State) : Prop := ∃ u v, Aside s u ∧ DipEvent u v ∧ Aside v t

theorem DipEvent.one {s t : State} (h : DipEvent s t) : OneEvent s t := ⟨s, t, .refl s, h, .refl t⟩

theorem Aside.one {s t : State} (h : Aside s t) : OneEvent s t := ⟨s, s, .refl s, .rest s, h⟩

theorem Aside.before {s t u : State} (h : Aside s t) (h' : OneEvent t u) : OneEvent s u := by
  obtain ⟨v, w, hv, hw, hu⟩ := h'
  exact ⟨v, w, h.trans hv, hw, hu⟩

theorem OneEvent.aside {s t u : State} (h : OneEvent s t) (h' : Aside t u) : OneEvent s u := by
  obtain ⟨v, w, hv, hw, hu⟩ := h
  exact ⟨v, w, hv, hw, hu.trans h'⟩

/-! ## The events of the downstream ports -/

/-- A telemetry sample is weighed and then taken at its context (R50, R76). -/
theorem takeSample_oneEvent (h : Hoist) (t : Telemetry) (s : State) : OneEvent s (takeSample h t s) := by
  have weighed (c : Channel) : Aside s (s.setChannel h c) := ⟨rfl, rfl, rfl, rfl, rfl, rfl⟩
  exact ((weighed _).trans (aside_setNoticeIf _ _ _)).before (DipEvent.sample h _).one

/-- An isolation aborts the dip, with the link's own work before and after (R16). -/
theorem isolate_oneEvent (h : Hoist) (s : State) (hk : (s.contexts.get h).state.overKettle = true) :
    OneEvent s (isolate h s) := by
  have cut : Aside s (cutOff h s) := ⟨rfl, rfl, rfl, rfl, rfl, rfl⟩
  rw [isolate_eq]
  refine OneEvent.aside ?_ ((aside_sendStop h .isolationStop _).trans (aside_setPort _ _ _))
  exact cut.before (DipEvent.abort h (cutOff h s) hk).one

theorem strictStops_overKettle {h : Hoist} {s : State} (hs : strictStops h.port s = true) :
    (s.contexts.get h).state.overKettle = true := by
  simp only [strictStops, Hoist.hoist_port, Bool.and_eq_true] at hs
  exact hs.2

theorem portError_oneEvent (p : Port) (e : PortError) (s : State) : OneEvent s (portError p e s) := by
  have worked (hu : (s.ports.get p).state = .opened ∨ (s.ports.get p).state = .faulted) :
      OneEvent s (portError p e s) := by
    cases hs : strictStops p s with
    | true =>
      obtain ⟨h, rfl⟩ := strictStops_hoist hs
      rw [portError_isolates hu hs]
      exact (aside_countError _ e s).before (isolate_oneEvent h _ (strictStops_overKettle hs))
    | false =>
      rw [portError_faults hu hs]
      exact ((aside_countError p e s).trans (aside_setPort _ _ _)).one
  cases hu : (s.ports.get p).state with
  | opened => exact worked (.inl hu)
  | faulted => exact worked (.inr hu)
  | isolated => rw [portError_isolated hu]; exact (aside_countError p e s).one
  | restarting => rw [portError_restarting hu]; exact (Aside.refl s).one

theorem freeWithError_oneEvent (p : Port) (lc : LocalCode) (e : PortError) (s : State) :
    OneEvent s (freeWithError p lc e s) :=
  ((aside_abandonSlot p lc s).before (portError_oneEvent p e _)).aside (aside_sendPending p _)

theorem readReply_oneEvent (p : Port) (code : Byte) (f : Frame) (s : State) : OneEvent s (readReply p code f s) := by
  unfold readReply
  split
  · split
    · split
      · exact takeSample_oneEvent _ _ s
      · exact (Aside.refl s).one
    · exact (Aside.refl s).one
  · split
    · split
      · exact (aside_takeBathSample _ s).one
      · exact (Aside.refl s).one
    · exact (Aside.refl s).one

theorem matchedReply_oneEvent (p : Port) (sl : Slot) (f : Frame) (s : State) : OneEvent s (matchedReply p sl f s) := by
  have up (u : State) : Aside u (replyUp sl.origin f u) := by
    unfold replyUp
    split
    · exact ⟨rfl, rfl, rfl, rfl, rfl, rfl⟩
    · exact .refl u
  exact (((aside_setPort p _ s).trans (aside_sendPending p _)).before (readReply_oneEvent p _ f _)).aside (up _)

theorem receiveDown_oneEvent (p : Port) (bytes : List Byte) (s : State) : OneEvent s (receiveDown p bytes s) := by
  unfold receiveDown
  split
  · exact (Aside.refl s).one
  · split
    · unfold undamagedFrame
      split
      · split
        · exact matchedReply_oneEvent p _ _ s
        · exact portError_oneEvent p _ s
      · exact portError_oneEvent p _ s
    · exact freeWithError_oneEvent p _ _ s

theorem replyTimeout_oneEvent (p : Port) (s : State) : OneEvent s (replyTimeout p s) := by
  unfold replyTimeout
  split
  · split
    · exact freeWithError_oneEvent p _ _ s
    · exact (Aside.refl s).one
  · exact (Aside.refl s).one

/-! ## The timers -/

theorem aside_recoveryExpired (p : Port) (s : State) : Aside s (recoveryExpired p s) := by
  unfold recoveryExpired
  simp only
  split
  · exact aside_setPort _ _ s
  · exact .refl s

theorem aside_stopTimerExpired (h : Hoist) (s : State) : Aside s (stopTimerExpired h s) := by
  unfold stopTimerExpired
  simp only
  split
  · exact (aside_setPort _ _ s).trans (aside_generatedDue _ _ _)
  · exact .refl s

theorem aside_restartHoldExpired (p : Port) (s : State) : Aside s (restartHoldExpired p s) := by
  unfold restartHoldExpired
  simp only
  split
  · exact (aside_setPort _ _ s).trans (aside_sendPending _ _)
  · exact .refl s

theorem aside_commandTimerExpired (h : Hoist) (s : State) : Aside s (commandTimerExpired h s) := by
  unfold commandTimerExpired
  simp only
  split
  · split
    · exact aside_setMotion _ _ s
    · exact (aside_setMotion _ _ s).trans (aside_generatedDue _ _ _)
  · exact .refl s

/-- A context's timer acts in the state that it belongs to. -/
theorem timerDue_state {st : DipState} {timer : Context → Option Nat} {h : Hoist} {s : State}
    (hd : timerDue st timer h s = true) : (s.contexts.get h).state = st := by
  simp only [timerDue, Bool.and_eq_true, beq_iff_eq] at hd
  exact hd.1

theorem aside_completeSave (s : State) : Aside s (completeSave s) := by
  unfold completeSave
  split
  · exact ⟨rfl, rfl, rfl, rfl, rfl, rfl⟩
  · exact .refl s

/-! ## The commands -/

theorem aside_reply (q : Req) (own code : Byte) (st : Status) (data : List Byte) (s : State) :
    Aside s (reply q own code st data s) := ⟨rfl, rfl, rfl, rfl, rfl, rfl⟩

theorem aside_answered (q : Req) (code : Byte) (st : Status) (data : List Byte) (s : State) :
    Aside s (answered q code st data s s) := ⟨rfl, rfl, rfl, rfl, rfl, rfl⟩

theorem restartSegment_aside {q : Req} {n : Nat} {s t : State} (h : exec (.restartSegment q n) s = .next t) :
    Aside s t := by
  cases hp : portOf n with
  | none =>
    rw [exec_restartSegment_none q s hp] at h
    cases h
    exact aside_answered _ _ _ _ s
  | some p =>
    cases hr : restartRefused p s with
    | true =>
      rw [exec_restartSegment_refused q s hp hr] at h
      cases h
      exact aside_answered _ _ _ _ s
    | false =>
      rw [exec_restartSegment_done q s hp hr] at h
      cases h
      exact (aside_answered _ _ _ _ s).trans (aside_restartPort p _)

/-- A management request has its owning rule's effect, and then its reply. -/
theorem management_oneEvent {i : Instr} {code : Byte} {s t : State} (hc : managementCode i = some code)
    (h : exec i s = .next t) : OneEvent s t := by
  by_cases hr : ∃ q n, i = .restartSegment q n
  · obtain ⟨q, n, rfl⟩ := hr
    exact (restartSegment_aside h).one
  · rw [exec_manage hc (fun q n hi => hr ⟨q, n, hi⟩), manage_next] at h
    injection h with h
    subst h
    split
    · exact (aside_answered _ _ _ _ s).one
    · exact (aside_begin s).before ((DipEvent.request i s.begin).one.aside (aside_reply _ _ _ _ _ _))

theorem managementRequest_oneEvent {q : Req} {code : Byte} {p : List Byte} {s t : State}
    (h : managementRequest q code p s = .next t) : OneEvent s t := by
  cases hd : decodeManagement q code p with
  | some i =>
    rw [managementRequest_some s hd] at h
    exact management_oneEvent (decodeManagement_code hd).1 h
  | none =>
    rw [managementRequest_bad q s (by rw [← decodeManagement_isSome q, hd]; rfl)] at h
    cases h
    exact (aside_answered _ _ _ _ s).one

theorem upstreamFrame_oneEvent {bytes : List Byte} {s t : State} (h : exec (.upstreamFrame bytes) s = .next t) :
    OneEvent s t := by
  simp only [exec, execUpstreamFrame] at h
  split at h
  · unfold upstream at h
    split at h
    · cases h; exact (aside_begin s).one
    · split at h
      · exact managementRequest_oneEvent h
      · split at h
        · cases h; exact ((aside_begin s).trans (aside_broadcast _ _)).one
        · cases h; exact ((aside_begin s).trans (aside_routeRequest _ _)).one
  · cases h; exact Aside.one ⟨rfl, rfl, rfl, rfl, rfl, rfl⟩

/-- What a command does to the dips and the tables: at most one event, with what stands aside around it. -/
theorem exec_oneEvent {i : Instr} {s t : State} (h : exec i s = .next t) : OneEvent s t := by
  have event {u : State} (hu : OneEvent s.begin u)
      (e : Host.Outcome.next (φ := Fault) (ρ := Refusal) u = .next t) : OneEvent s t := by
    injection e with e
    exact e ▸ (aside_begin s).before hu
  have timer {c : Bool} {u : State} (hu : c = true → OneEvent s.begin u) :
      OneEvent s.begin (if c then u else s.begin) := by
    cases c
    · exact (Aside.refl _).one
    · exact hu rfl
  cases hc : managementCode i with
  | some code => exact management_oneEvent hc h
  | none =>
    cases i with
    | upstreamFrame bytes => exact upstreamFrame_oneEvent h
    | unassignedManagementCode q code p => exact managementRequest_oneEvent h
    | saveCompletion => exact event (aside_completeSave _).one h
    | downstreamFrame p bytes => exact event (receiveDown_oneEvent p bytes _) h
    | replyTimerExpiry p => exact event (replyTimeout_oneEvent p _) h
    | recoveryTimerExpiry p => exact event (aside_recoveryExpired p _).one h
    | isolationStopTimerExpiry x => exact event (aside_stopTimerExpired x _).one h
    | restartHoldExpiry p => exact event (aside_restartHoldExpired p _).one h
    | commandTimerExpiry x => exact event (aside_commandTimerExpired x _).one h
    | drainDwellExpiry x => exact event (timer fun hd => (DipEvent.drain x _ (timerDue_state hd)).one) h
    | weighTimerExpiry x => exact event (timer fun hd => (DipEvent.weigh x _ (timerDue_state hd)).one) h
    | jigWeighTimerExpiry x => exact event (timer fun hd => (DipEvent.jigWeigh x _ (timerDue_state hd)).one) h
    | pollTimerExpiry =>
      have stopped : Aside s.begin (s.begin.setBath { s.bath with pollTimer := none }) := aside_setBath rfl
      exact event (timer fun _ => (stopped.trans (aside_pollDue _)).one) h
    | staleExpiry fig => exact event (timer fun _ => (aside_staleExpired fig _).one) h
    | deviceReset cause service =>
      exact event ((DipEvent.restart _ s.image cause service s.pending).one.aside (aside_pollDue _)) h
    | _ => nomatch hc

/-- So does a step; a millisecond that passes stands aside. -/
theorem step_oneEvent {s t : State} (h : step s = .next t) : OneEvent s t := by
  unfold step at h
  split at h
  · have taken (rest : List Instr) : Aside s { s with pending := rest } := ⟨rfl, rfl, rfl, rfl, rfl, rfl⟩
    exact (taken _).before (exec_oneEvent h)
  · cases h
    exact Aside.one ⟨rfl, rfl, rfl, rfl, rfl, rfl⟩

end Sys2Proof.Machine
end

section
/-! Tags and the tables they name: what changes of the tables leave a tag naming what it named, and that every event of a
dip does (R75, R104, R135). -/

namespace Sys2Proof.Machine

/-! ## What a tag names -/

/-- The job with a number is OPEN or HELD. -/
def jobLive (n : Nat) (s : State) : Prop := (findJob n s).any (fun j => j.status != .closed) = true

/-- The jig with an ID is IN SERVICE. -/
def jigServes (n : Nat) (s : State) : Prop := (findJig n s).any (fun j => j.status == .inService) = true

/-- A tag names a job that is OPEN or HELD, a jig IN SERVICE and a profile that is present (R75). -/
structure NamesTables (x : TagArgs) (s : State) : Prop where
  job : jobLive x.job s
  jig : jigServes x.jig s
  profile : (findProfile x.profile s).isSome = true

theorem tagsNameTables_iff (s : State) :
    tagsNameTables s = true ↔ ∀ h x, (s.contexts.get h).tag = some x → NamesTables x s := by
  have one (c : Context) : tagNamesTables s c = true ↔ ∀ x, c.tag = some x → NamesTables x s := by
    unfold tagNamesTables
    cases c.tag with
    | none => simp
    | some x =>
      simp only [Bool.and_eq_true, and_assoc, Option.some.injEq, forall_eq']
      exact ⟨fun ⟨a, b, c⟩ => ⟨a, b, c⟩, fun ⟨a, b, c⟩ => ⟨a, b, c⟩⟩
  simp only [tagsNameTables, onBoth, Bool.and_eq_true, one]
  exact ⟨fun ⟨h1, h2⟩ h => by cases h <;> assumption, fun h => ⟨h .h1, h .h2⟩⟩

theorem zonesInService_iff (m : ZoneMap) (c : Context) :
    c.zonesInService m = true ↔ ∀ x, c.tag = some x → tagZonesInService x m = true := by
  unfold Context.zonesInService tagZonesInService
  cases c.tag <;> simp

theorem tagZonesOk_iff (s : State) : tagZonesOk s = true ↔ (∀ h, (s.contexts.get h).tagMatchesState = true)
    ∧ ∀ h x, (s.contexts.get h).tag = some x → tagZonesInService x s.tables.zoneMap = true := by
  simp only [tagZonesOk, onBoth, Bool.and_eq_true, zonesInService_iff]
  constructor
  · rintro ⟨⟨m1, z1⟩, m2, z2⟩
    exact ⟨fun h => by cases h <;> assumption, fun h => by cases h <;> assumption⟩
  · exact fun ⟨m, z⟩ => ⟨⟨m .h1, z .h1⟩, m .h2, z .h2⟩

/-! ## Changes of the tables -/

/-- The job, jig and profile tables decide what a tag names. -/
theorem NamesTables.congr {x : TagArgs} {s t : State} (h : NamesTables x s) (hj : t.tables.jobs = s.tables.jobs)
    (hg : t.tables.jigs = s.tables.jigs) (hp : t.tables.profiles = s.tables.profiles) : NamesTables x t := by
  refine ⟨?_, ?_, ?_⟩
  · simpa only [jobLive, findJob, hj] using h.job
  · simpa only [jigServes, findJig, hg] using h.jig
  · simpa only [findProfile, hp] using h.profile

theorem findJob_modJob (m n : Nat) {f : Job → Job} (s : State) (hn : ∀ j, (f j).number = j.number) :
    findJob m (modJob n f s) = (findJob m s).map (fun j => if j.number = n then f j else j) := by
  have number : (fun j : Job => j.number == m) ∘ (fun j => if j.number = n then f j else j)
      = fun j => j.number == m := by
    funext j
    simp only [Function.comp_apply]
    split <;> simp [hn]
  exact List.find?_map.trans (by rw [number]; rfl)

theorem findJig_modJig (m n : Nat) {f : Jig → Jig} (s : State) (hn : ∀ j, (f j).id = j.id) :
    findJig m (modJig n f s) = (findJig m s).map (fun j => if j.id = n then f j else j) := by
  have number : (fun j : Jig => j.id == m) ∘ (fun j => if j.id = n then f j else j) = fun j => j.id == m := by
    funext j
    simp only [Function.comp_apply]
    split <;> simp [hn]
  exact List.find?_map.trans (by rw [number]; rfl)

/-- A job stays live while its account is changed, unless the change closes it. -/
theorem jobLive_modJob {m n : Nat} {f : Job → Job} {s : State} (hn : ∀ j, (f j).number = j.number)
    (hs : m = n → ∀ j, j.status ≠ .closed → (f j).status ≠ .closed) (h : jobLive m s) : jobLive m (modJob n f s) := by
  unfold jobLive at h ⊢
  rw [findJob_modJob m n s hn]
  simp only [Option.any_eq_true, Option.map_eq_some_iff, bne_iff_ne] at h ⊢
  obtain ⟨j, hj, hl⟩ := h
  refine ⟨_, ⟨j, hj, rfl⟩, ?_⟩
  have hm : j.number = m := by simpa using List.find?_some hj
  split
  · next e => exact hs (hm.symm.trans e) j hl
  · exact hl

/-- A jig stays in service while its entry is changed, unless the change withdraws it. -/
theorem jigServes_modJig {m n : Nat} {f : Jig → Jig} {s : State} (hn : ∀ j, (f j).id = j.id)
    (hs : m = n → ∀ j, j.status = .inService → (f j).status = .inService) (h : jigServes m s) :
    jigServes m (modJig n f s) := by
  unfold jigServes at h ⊢
  rw [findJig_modJig m n s hn]
  simp only [Option.any_eq_true, Option.map_eq_some_iff, beq_iff_eq] at h ⊢
  obtain ⟨j, hj, hl⟩ := h
  refine ⟨_, ⟨j, hj, rfl⟩, ?_⟩
  have hm : j.id = m := by simpa using List.find?_some hj
  split
  · next e => exact hs (hm.symm.trans e) j hl
  · exact hl

theorem NamesTables.modJob {x : TagArgs} {n : Nat} {f : Job → Job} {s : State} (h : NamesTables x s)
    (hn : ∀ j, (f j).number = j.number) (hs : x.job = n → ∀ j, j.status ≠ .closed → (f j).status ≠ .closed) :
    NamesTables x (modJob n f s) := ⟨jobLive_modJob hn hs h.job, h.jig, h.profile⟩

theorem NamesTables.modJig {x : TagArgs} {n : Nat} {f : Jig → Jig} {s : State} (h : NamesTables x s)
    (hn : ∀ j, (f j).id = j.id) (hs : x.jig = n → ∀ j, j.status = .inService → (f j).status = .inService) :
    NamesTables x (modJig n f s) := ⟨h.job, jigServes_modJig hn hs h.jig, h.profile⟩

/-! ## Tags kept -/

/-- `t` comes after `s` with no new tag, and each tag that is left naming what it named, its zones in service as they
were. -/
structure TagsKept (s t : State) : Prop where
  tags : ∀ h x, (t.contexts.get h).tag = some x → (s.contexts.get h).tag = some x
  named : ∀ h x, (t.contexts.get h).tag = some x → NamesTables x s → NamesTables x t
  zones : ∀ h x, (t.contexts.get h).tag = some x → tagZonesInService x s.tables.zoneMap = true →
    tagZonesInService x t.tables.zoneMap = true

theorem TagsKept.trans {s t u : State} (h : TagsKept s t) (h' : TagsKept t u) : TagsKept s u :=
  ⟨fun x t hx => h.tags x t (h'.tags x t hx), fun x t hx hn => h'.named x t hx (h.named x t (h'.tags x t hx) hn),
    fun x t hx hz => h'.zones x t hx (h.zones x t (h'.tags x t hx) hz)⟩

/-- Contexts whose tags are as they were or gone. -/
theorem TagsKept.of_contexts {s t : State} (ht : t.tables = s.tables)
    (hc : ∀ h x, (t.contexts.get h).tag = some x → (s.contexts.get h).tag = some x) : TagsKept s t :=
  ⟨hc, fun _ _ _ hn => hn.congr (by rw [ht]) (by rw [ht]) (by rw [ht]), fun _ _ _ hz => by rwa [ht]⟩

/-! ## Contexts changed together -/

theorem State.setContext_get (s : State) (h x : Hoist) (c : Context) :
    (s.setContext h c).contexts.get x = if x = h then c else s.contexts.get x := PerHoist.get_set _ _ _ _

/-- What holds of every context, and is kept by a change of the contexts in a list, holds after the change. -/
theorem modContexts_induct {P : Hoist → Context → Prop} {ms : List Hoist} {f : Context → Context} {s : State}
    (hf : ∀ h ∈ ms, ∀ c, P h c → P h (f c)) (hs : ∀ h, P h (s.contexts.get h)) :
    ∀ h, P h ((modContexts ms f s).contexts.get h) := by
  unfold modContexts
  induction ms generalizing s with
  | nil => exact hs
  | cons m ms ih =>
    rw [List.foldl_cons]
    refine ih (fun h hm => hf h (List.mem_cons_of_mem _ hm)) (fun h => ?_)
    rw [State.setContext_get]
    split
    · next e => subst e; exact hf h List.mem_cons_self _ (hs h)
    · exact hs h

theorem modContexts_tables (ms : List Hoist) (f : Context → Context) (s : State) :
    (modContexts ms f s).tables = s.tables := by
  obtain ⟨c, h⟩ := modContexts_eq ms f s
  rw [h]

theorem modContexts_waiting (ms : List Hoist) (f : Context → Context) (s : State) :
    (modContexts ms f s).waiting = s.waiting := by
  obtain ⟨c, h⟩ := modContexts_eq ms f s
  rw [h]

/-- A change that gives no context a new tag. -/
theorem tagsKept_modContexts {ms : List Hoist} {f : Context → Context} {s : State}
    (hf : ∀ c x, (f c).tag = some x → c.tag = some x) : TagsKept s (modContexts ms f s) := by
  refine .of_contexts (modContexts_tables ms f s) ?_
  exact modContexts_induct (P := fun h c => ∀ x, c.tag = some x → (s.contexts.get h).tag = some x)
    (fun _ _ c hc x hx => hc x (hf c x hx)) (fun _ _ hx => hx)

/-! ## Tags that stand -/

/-- Tags stand in the states that hold one, a paired context has one, and so has a context whose claim waits, which is
not ABANDONED (R75, R106, R111). -/
structure Upright (s : State) : Prop where
  matched : ∀ h, (s.contexts.get h).tagMatchesState = true
  paired : ∀ h, (s.contexts.get h).pair = .paired → (s.contexts.get h).tag.isSome = true
  waits : ∀ w, s.waiting = some w → ∀ h ∈ w.claimant.hoists,
    (s.contexts.get h).tag.isSome = true ∧ (s.contexts.get h).state ≠ .abandoned

theorem tagMatchesState_iff (c : Context) :
    c.tagMatchesState = true ↔ (c.tag.isSome = true ↔ c.state ≠ .idle ∧ c.state ≠ .jigWeigh) := by
  unfold Context.tagMatchesState
  rw [beq_iff_eq, Bool.eq_iff_iff]
  simp

theorem waitsFor_state {w : WaitingClaim} {b : Bool} {c : Context} (h : waitsFor w b c = true) :
    c.state = .waitingZone := by
  simp only [waitsFor, Bool.and_eq_true, beq_iff_eq] at h
  exact h.1.1

/-- Pair links are in order where the dips are (R110, R111). -/
theorem pairLinkOk_of_dipsOk {s : State} (h : dipsOk s = true) (x : Hoist) :
    pairLinkOk (s.contexts.get x) (s.contexts.get x.other) = true := by
  simp only [dipsOk, onBoth, Bool.and_eq_true] at h
  obtain ⟨⟨⟨⟨⟨-, l1⟩, -⟩, ⟨-, l2⟩, -⟩, -⟩, -⟩ := h
  cases x <;> assumption

/-- Tags stand where the dips are in order. -/
theorem upright_of_dipsOk {s : State} (h : dipsOk s = true) : Upright s := by
  have linked := pairLinkOk_of_dipsOk h
  simp only [dipsOk, onBoth, Bool.and_eq_true] at h
  obtain ⟨⟨⟨⟨⟨⟨m1, -⟩, -⟩, -⟩, ⟨⟨m2, -⟩, -⟩, -⟩, hw⟩, -⟩ := h
  have matched : ∀ h, (s.contexts.get h).tagMatchesState = true := fun h => by cases h <;> assumption
  have waiting : ∀ x, (s.contexts.get x).state = .waitingZone →
      (s.contexts.get x).tag.isSome = true ∧ (s.contexts.get x).state ≠ .abandoned := by
    intro x hx
    exact ⟨((tagMatchesState_iff _).1 (matched x)).2 (by simp [hx]), by simp [hx]⟩
  refine ⟨matched, fun h hp => ?_, fun w e x hx => waiting x ?_⟩
  · have hl := linked h
    simp only [pairLinkOk, hp, Bool.and_eq_true] at hl
    exact hl.1
  · simp only [waitingOk, e] at hw
    cases hc : w.claimant with
    | none => simp [hc, Owner.hoists] at hx
    | hoist y =>
      simp only [hc, Owner.hoists, List.mem_singleton] at hw hx
      exact hx ▸ waitsFor_state hw
    | pair =>
      simp only [hc, Bool.and_eq_true] at hw
      cases x
      · exact waitsFor_state hw.1
      · exact waitsFor_state hw.2

theorem Upright.congr {s t : State} (h : Upright s) (hc : t.contexts = s.contexts) (hw : t.waiting = s.waiting) :
    Upright t :=
  ⟨by rw [hc]; exact h.matched, by rw [hc]; exact h.paired, by rw [hc, hw]; exact h.waits⟩

/-- `t` comes after `s` with every tag and pair link as it was, naming what it named, and standing where it stood. -/
structure Upholds (s t : State) : Prop where
  tags : ∀ h, (t.contexts.get h).tag = (s.contexts.get h).tag
  pairs : ∀ h, (t.contexts.get h).pair = (s.contexts.get h).pair
  named : ∀ x, NamesTables x s → NamesTables x t
  zoneMap : t.tables.zoneMap = s.tables.zoneMap
  upright : Upright s → Upright t

theorem Upholds.trans {s t u : State} (h : Upholds s t) (h' : Upholds t u) : Upholds s u :=
  ⟨fun x => (h'.tags x).trans (h.tags x), fun x => (h'.pairs x).trans (h.pairs x), fun x hx => h'.named x (h.named x hx),
    h'.zoneMap.trans h.zoneMap, fun hu => h'.upright (h.upright hu)⟩

/-- The later change named first, so that its own form says what came before it. -/
theorem Upholds.after {s t u : State} (h' : Upholds t u) (h : Upholds s t) : Upholds s u := h.trans h'

theorem Upholds.tagsKept {s t : State} (h : Upholds s t) : TagsKept s t :=
  ⟨fun x y hx => h.tags x ▸ hx, fun _ x _ => h.named x, fun _ _ _ hz => by rwa [h.zoneMap]⟩

/-- What leaves the contexts, the waiting claim and the zone map, and every name of a tag. -/
theorem Upholds.of_names {s t : State} (hc : t.contexts = s.contexts) (hw : t.waiting = s.waiting)
    (hz : t.tables.zoneMap = s.tables.zoneMap) (hn : ∀ x, NamesTables x s → NamesTables x t) : Upholds s t :=
  ⟨fun h => by rw [hc], fun h => by rw [hc], hn, hz, fun hu => hu.congr hc hw⟩

theorem Upholds.of_same {s t : State} (hc : t.contexts = s.contexts) (hw : t.waiting = s.waiting)
    (ht : t.tables = s.tables) : Upholds s t :=
  .of_names hc hw (by rw [ht]) (fun _ h => h.congr (by rw [ht]) (by rw [ht]) (by rw [ht]))

theorem Upholds.refl (s : State) : Upholds s s := .of_same rfl rfl rfl

theorem upholds_setNoticeIf (c : Bool) (n : Notice) (s : State) : Upholds s (setNoticeIf c n s) :=
  .of_same (by simp) (by simp) (by simp)

/-- A change of a context that leaves its tag and its pair link, and takes one with a tag to a state that holds one. -/
structure KeepsTag (f : Context → Context) : Prop where
  tag : ∀ c, (f c).tag = c.tag
  pair : ∀ c, (f c).pair = c.pair
  matched : ∀ c, c.tag.isSome = true → c.tagMatchesState = true → (f c).tagMatchesState = true
  live : ∀ c, c.state ≠ .abandoned → (f c).state ≠ .abandoned

/-- A change of figures alone. -/
theorem KeepsTag.of_state {f : Context → Context} (ht : ∀ c, (f c).tag = c.tag) (hp : ∀ c, (f c).pair = c.pair)
    (hs : ∀ c, (f c).state = c.state) : KeepsTag f :=
  ⟨ht, hp, fun c _ hm => by rw [tagMatchesState_iff] at hm ⊢; rwa [ht, hs], fun c => by rw [hs]; exact id⟩

/-- A change to a state of the dip. -/
theorem KeepsTag.to_state {f : Context → Context} (st : DipState) (ht : ∀ c, (f c).tag = c.tag)
    (hp : ∀ c, (f c).pair = c.pair) (hs : ∀ c, (f c).state = st) (hd : st.inDip = true) : KeepsTag f := by
  rw [inDip_iff] at hd
  simp only [List.mem_cons, List.not_mem_nil, or_false, not_or] at hd
  obtain ⟨idle, jig, abandoned⟩ := hd
  refine ⟨ht, hp, fun c hc _ => ?_, fun c _ => by rwa [hs]⟩
  rw [tagMatchesState_iff, ht, hs]
  exact iff_of_true hc ⟨idle, jig⟩

/-- Contexts with a tag changed together. -/
theorem upholds_modContexts {ms : List Hoist} {f : Context → Context} {s : State} (hf : KeepsTag f)
    (hms : Upright s → ∀ x ∈ ms, (s.contexts.get x).tag.isSome = true) : Upholds s (modContexts ms f s) := by
  have tags := modContexts_induct (ms := ms) (f := f) (s := s)
    (P := fun h c => c.tag = (s.contexts.get h).tag ∧ c.pair = (s.contexts.get h).pair)
    (fun _ _ c hc => ⟨(hf.tag c).trans hc.1, (hf.pair c).trans hc.2⟩) (fun _ => ⟨rfl, rfl⟩)
  refine ⟨fun h => (tags h).1, fun h => (tags h).2, ?_, ?_, fun hu => ⟨?_, ?_, ?_⟩⟩
  · exact fun _ hn => hn.congr (by rw [modContexts_tables]) (by rw [modContexts_tables]) (by rw [modContexts_tables])
  · rw [modContexts_tables]
  · have both := modContexts_induct (ms := ms) (f := f) (s := s)
      (P := fun h c => (h ∈ ms → c.tag.isSome = true) ∧ c.tagMatchesState = true)
      (fun h hm c hc => ⟨fun _ => by rw [hf.tag]; exact hc.1 hm, hf.matched c (hc.1 hm) hc.2⟩)
      (fun h => ⟨hms hu h, hu.matched h⟩)
    exact fun h => (both h).2
  · intro h hp
    rw [(tags h).2] at hp
    rw [(tags h).1]
    exact hu.paired h hp
  · intro w hw h hh
    rw [modContexts_waiting] at hw
    have live := modContexts_induct (ms := ms) (f := f) (s := s)
      (P := fun x c => (s.contexts.get x).state ≠ .abandoned → c.state ≠ .abandoned)
      (fun _ _ c hc hx => hf.live c (hc hx)) (fun _ hx => hx)
    rw [(tags h).1]
    exact ⟨(hu.waits w hw h hh).1, live h (hu.waits w hw h hh).2⟩

/-- The contexts of a dip have tags where its own has one: a pair's both have. -/
theorem members_tagged {h : Hoist} {s t : State} (hu : Upright t)
    (hp : ∀ x, (t.contexts.get x).pair = (s.contexts.get x).pair) (ht : (t.contexts.get h).tag.isSome = true) :
    ∀ x ∈ members h s, (t.contexts.get x).tag.isSome = true := by
  intro x hx
  unfold members at hx
  split at hx
  · next hj => exact hu.paired x ((hp x).trans ((joint_iff s).1 hj x).1)
  · rw [List.mem_singleton] at hx
    rwa [hx]

/-- The contexts of a dip with a tag changed together. -/
theorem upholds_dip {h : Hoist} {f : Context → Context} {s : State} (hf : KeepsTag f)
    (ht : Upright s → (s.contexts.get h).tag.isSome = true) : Upholds s (modContexts (members h s) f s) :=
  upholds_modContexts hf (fun hu => members_tagged hu (fun _ => rfl) (ht hu))

/-- In a state of the dip a context has a tag. -/
theorem Upright.tagged {h : Hoist} {s : State} (hu : Upright s) (hi : (s.contexts.get h).state ≠ .idle)
    (hj : (s.contexts.get h).state ≠ .jigWeigh) : (s.contexts.get h).tag.isSome = true :=
  ((tagMatchesState_iff _).1 (hu.matched h)).2 ⟨hi, hj⟩

theorem tagProfile_tagged {h : Hoist} {s : State} {pr : Profile} (hp : tagProfile h s = some pr) :
    (s.contexts.get h).tag.isSome = true := by
  unfold tagProfile at hp
  split at hp
  · next ht => rw [ht]; rfl
  · cases hp

end Sys2Proof.Machine
end

section
/-! Every event of a dip keeps the tags in order: a transition leaves a tag with a state that holds one, or ends the dip
with its tag gone (R75, R91, R111). -/

namespace Sys2Proof.Machine

/-! ## Claims (R105 to R107) -/

/-- Owners and the waiting claim replaced. -/
theorem upholds_claims {s : State} {o : PerZone Owner} {w : Option WaitingClaim}
    (hw : Upright s → ∀ x, w = some x → ∀ h ∈ x.claimant.hoists,
      (s.contexts.get h).tag.isSome = true ∧ (s.contexts.get h).state ≠ .abandoned) :
    Upholds s { s with owners := o, waiting := w } :=
  ⟨fun _ => rfl, fun _ => rfl, fun _ hn => hn.congr rfl rfl rfl, rfl, fun hu => ⟨hu.matched, hu.paired, hw hu⟩⟩

/-- Contexts changed in a list do not bear on owners and the waiting claim. -/
theorem modContexts_claims (ms : List Hoist) (f : Context → Context) (s : State) (o : PerZone Owner)
    (w : Option WaitingClaim) : modContexts ms f { s with owners := o, waiting := w }
      = { modContexts ms f s with owners := o, waiting := w } := by
  unfold modContexts
  induction ms generalizing s with
  | nil => rfl
  | cons m ms ih => exact ih (s.setContext m (f (s.contexts.get m)))

theorem keepsTag_granted : KeepsTag Context.granted :=
  .to_state .lowering (fun _ => rfl) (fun _ => rfl) (fun _ => rfl) rfl

theorem keepsTag_claimWaits : KeepsTag Context.claimWaits :=
  .to_state .waitingZone (fun _ => rfl) (fun _ => rfl) (fun _ => rfl) rfl

/-- The contexts that a claimant stands for are those of its dip. -/
theorem claimantOf_hoists (h : Hoist) (s : State) : (claimantOf h s).hoists = members h s := by
  unfold claimantOf members
  split <;> rfl

theorem members_live {h x : Hoist} {s : State} (hx : x ∈ members h s) (hl : (s.contexts.get h).state ≠ .abandoned) :
    (s.contexts.get x).state ≠ .abandoned := by
  unfold members at hx
  split at hx
  · next hj => exact ((joint_iff s).1 hj x).2
  · rw [List.mem_singleton] at hx
    rwa [hx]

/-- A claim of a dip with a tag is granted at once or waits (R106). -/
theorem upholds_submitClaim {h : Hoist} {s : State} (first last : Nat) (ht : (s.contexts.get h).tag.isSome = true)
    (hl : (s.contexts.get h).state ≠ .abandoned) : Upholds s (submitClaim (claimantOf h s) first last s) := by
  unfold submitClaim
  rw [claimantOf_hoists]
  split
  · refine Upholds.after (upholds_modContexts keepsTag_granted fun hu => ?_) (.of_same rfl rfl rfl)
    exact members_tagged hu (fun _ => rfl) ht
  · refine Upholds.after (upholds_modContexts keepsTag_claimWaits fun hu => ?_) (upholds_claims fun hu w e x hx => ?_)
    · exact members_tagged hu (fun _ => rfl) ht
    · obtain rfl := Option.some.inj e
      rw [claimantOf_hoists] at hx
      exact ⟨members_tagged hu (fun _ => rfl) ht x hx, members_live hx hl⟩

/-- The waiting claim that is granted is that of contexts with tags (R107). -/
theorem upholds_grantWaiting (s : State) : Upholds s (grantWaiting s) := by
  unfold grantWaiting
  split
  · next w hw =>
    split
    · rw [modContexts_claims]
      refine Upholds.trans (upholds_modContexts keepsTag_granted fun hu x hx => (hu.waits w hw x hx).1) ?_
      exact upholds_claims (fun _ _ e => nomatch e)
    · exact .refl s
  · exact .refl s

theorem upholds_releaseZones (o : Owner) (s : State) : Upholds s (releaseZones o s) :=
  Upholds.after (upholds_grantWaiting _) (.of_same rfl rfl rfl)

theorem upholds_releaseClaim {h : Hoist} {s : State} (ht : Upright s → (s.contexts.get h).tag.isSome = true) :
    Upholds s (releaseClaim h s) := by
  unfold releaseClaim
  split
  · refine Upholds.after (upholds_releaseZones _ _) (upholds_dip ?_ ht)
    exact .of_state (fun _ => rfl) (fun _ => rfl) (fun _ => rfl)
  · exact .refl s

/-! ## Closes (R144 to R148) -/

theorem upholds_writeRecord (r : Record) (s : State) : Upholds s (writeRecord r s) :=
  Upholds.after (upholds_setNoticeIf _ _ _) (.of_same rfl rfl rfl)

theorem upholds_setBalance (b : Balance) (s : State) : Upholds s (s.setBalance b) :=
  .of_names rfl rfl rfl (fun _ hn => hn.congr rfl rfl rfl)

/-- A job's account changed, and the job not closed (R146, R147). -/
theorem upholds_modJob {n : Nat} {f : Job → Job} (s : State) (hn : ∀ j, (f j).number = j.number)
    (hs : ∀ j, j.status ≠ .closed → (f j).status ≠ .closed) : Upholds s (modJob n f s) :=
  .of_names rfl rfl rfl (fun _ h => h.modJob hn (fun _ => hs))

theorem upholds_modJig {n : Nat} {f : Jig → Jig} (s : State) (hn : ∀ j, (f j).id = j.id)
    (hs : ∀ j, (f j).status = j.status) : Upholds s (modJig n f s) :=
  .of_names rfl rfl rfl (fun _ h => h.modJig hn (fun _ j hj => (hs j).trans hj))

/-- A NORMAL close may turn a job from OPEN to HELD, and never closes it (R146). -/
theorem closeNormal_status (j : Job) (sMass : Nat) (f : PickupFigures) (hj : j.status ≠ .closed) :
    (j.closeNormal sMass f).status ≠ .closed := by
  simp only [Job.closeNormal]
  split
  · exact nofun
  · exact hj

theorem upholds_closeNormal (c : Context) (t : TagArgs) (h : RecordHoist) (w : Int) (s : State) :
    Upholds s (closeNormal c t h w s) := by
  unfold closeNormal
  have notice (n : Notice) (u : State) : Upholds u (setNotice n u) := .of_same rfl rfl rfl
  refine Upholds.after (upholds_setNoticeIf _ _ _) (Upholds.after (upholds_setNoticeIf _ _ _) ?_)
  refine Upholds.after (notice _ _) (Upholds.after (upholds_setNoticeIf _ _ _) ?_)
  refine Upholds.after (upholds_setNoticeIf _ _ _) (Upholds.after (upholds_setBalance _ _) ?_)
  refine Upholds.after (upholds_modJig _ (fun _ => rfl) (fun _ => rfl)) ?_
  refine Upholds.after (upholds_modJob _ (fun _ => rfl) fun j => closeNormal_status j _ _) ?_
  exact upholds_writeRecord _ s

theorem upholds_chargeUnweighed (t : TagArgs) (s : State) : Upholds s (chargeUnweighed t s) := by
  refine Upholds.after (upholds_setBalance _ _) ?_
  refine Upholds.after (upholds_modJig _ (fun _ => rfl) (fun _ => rfl)) ?_
  exact upholds_modJob s (fun _ => rfl) (fun _ hj => hj)

theorem upholds_closeUnweighed (c : Context) (t : TagArgs) (h : RecordHoist) (s : State) :
    Upholds s (closeUnweighed c t h s) := by
  have notice (n : Notice) (u : State) : Upholds u (setNotice n u) := .of_same rfl rfl rfl
  exact Upholds.after (notice _ _) ((upholds_writeRecord _ s).trans (upholds_chargeUnweighed t _))

theorem upholds_closeAborted (c : Context) (t : TagArgs) (h : RecordHoist) (s : State) :
    Upholds s (closeAborted c t h s) := by
  have notice (n : Notice) (u : State) : Upholds u (setNotice n u) := .of_same rfl rfl rfl
  unfold closeAborted
  refine Upholds.after (notice _ _) ?_
  split
  · exact upholds_writeRecord _ s
  · exact (upholds_writeRecord _ s).trans (upholds_chargeUnweighed t _)

/-! ## Transitions (R79 to R90) -/

/-- Entry to WEIGHING changes channels, and then the contexts (R88). -/
theorem enterWeighing_eq (ms : List Hoist) (pr : Profile) (s : State) : ∃ ch, enterWeighing ms pr s
    = modContexts ms (fun c => { c with
        state := .weighing, drainTimer := none, weighTimer := some (s.now + pr.weighTimeout * 100) })
      { s with channels := ch } := by
  have settled (s : State) :
      ∃ ch, ms.foldl (fun s h => s.setChannel h { s.channels.get h with settle := 0 }) s = { s with channels := ch } := by
    induction ms generalizing s with
    | nil => exact ⟨_, rfl⟩
    | cons m ms ih =>
      obtain ⟨ch, h⟩ := ih (s.setChannel m { s.channels.get m with settle := 0 })
      exact ⟨ch, h⟩
  obtain ⟨ch, h⟩ := settled s
  refine ⟨ch, ?_⟩
  simp only [enterWeighing, h]

theorem upholds_enterWeighing {ms : List Hoist} (pr : Profile) {s : State}
    (hms : Upright s → ∀ x ∈ ms, (s.contexts.get x).tag.isSome = true) : Upholds s (enterWeighing ms pr s) := by
  obtain ⟨ch, h⟩ := enterWeighing_eq ms pr s
  rw [h]
  have settled : Upholds s { s with channels := ch } := .of_same rfl rfl rfl
  refine settled.trans (upholds_modContexts ?_ (fun hu => hms (hu.congr rfl rfl)))
  exact .to_state .weighing (fun _ => rfl) (fun _ => rfl) (fun _ => rfl) rfl

theorem upholds_enterDraining {h : Hoist} (pr : Profile) (b : Bool) {s : State}
    (ht : (s.contexts.get h).tag.isSome = true) : Upholds s (enterDraining (members h s) pr b s) := by
  have drains : Upholds s (modContexts (members h s) (fun c => { c with
      state := .draining, tDrain := some s.now, grounded := false,
      drainTimer := some (s.now + pr.drainDwell * 100),
      flags := { c.flags with shortImmersion := c.flags.shortImmersion || b } }) s) :=
    upholds_dip (.to_state .draining (fun _ => rfl) (fun _ => rfl) (fun _ => rfl) rfl) (fun _ => ht)
  unfold enterDraining
  split
  · exact drains.trans (upholds_enterWeighing pr fun hu => members_tagged hu drains.pairs (by rwa [drains.tags]))
  · exact drains

theorem upholds_enterImmersed {h : Hoist} (pr : Profile) (again : Bool) {s : State}
    (ht : (s.contexts.get h).tag.isSome = true) : Upholds s (enterImmersed (members h s) pr again s) := by
  refine upholds_dip (.to_state .immersed ?_ ?_ ?_ rfl) (fun _ => ht) <;> intro c <;> simp only <;> split <;> rfl

theorem upholds_markOverload (h : Hoist) (s : State) : Upholds s (markOverload h s) := by
  unfold markOverload
  split
  · next hd =>
    rw [Bool.and_eq_true, inDip_iff] at hd
    refine upholds_dip (.of_state (fun _ => rfl) (fun _ => rfl) (fun _ => rfl)) (fun hu => hu.tagged ?_ ?_)
    · exact fun e => hd.1 (by simp [e])
    · exact fun e => hd.1 (by simp [e])
  · exact .refl s

/-! ## Dips that end -/

/-- `t` comes after `s` with the tags kept, and standing in the states that hold one where they stood so. -/
structure Ends (s t : State) : Prop extends TagsKept s t where
  matched : Upright s → ∀ h, (t.contexts.get h).tagMatchesState = true

theorem Upholds.ends {s t : State} (h : Upholds s t) : Ends s t := ⟨h.tagsKept, fun hu => (h.upright hu).matched⟩

theorem Ends.after {s t u : State} (h' : Ends t u) (h : Upholds s t) : Ends s u :=
  ⟨h.tagsKept.trans h'.toTagsKept, fun hu => h'.matched (h.upright hu)⟩

/-- Contexts changed together last, each to one whose tag and state match. -/
theorem ends_modContexts {ms : List Hoist} {f : Context → Context} {s : State}
    (ht : ∀ c x, (f c).tag = some x → c.tag = some x)
    (hm : ∀ c, c.tagMatchesState = true → (f c).tagMatchesState = true) : Ends s (modContexts ms f s) :=
  ⟨tagsKept_modContexts ht, fun hu => modContexts_induct (P := fun _ c => c.tagMatchesState = true)
    (fun _ _ => hm) hu.matched⟩

/-- A context back in IDLE has no tag. -/
theorem ends_toIdle (ms : List Hoist) (s : State) : Ends s (modContexts ms Context.toIdle s) :=
  ends_modContexts (fun _ _ h => nomatch h) (fun _ _ => rfl)

/-- What leaves the tables, and the tag and the state of each context. -/
theorem Ends.unmoved {s t u : State} (h : Ends s t) (ht : u.tables = t.tables)
    (hc : ∀ x, (u.contexts.get x).tag = (t.contexts.get x).tag
      ∧ (u.contexts.get x).state = (t.contexts.get x).state) : Ends s u := by
  refine ⟨h.toTagsKept.trans (.of_contexts ht fun x y hy => (hc x).1 ▸ hy), fun hu x => ?_⟩
  have hm := h.matched hu x
  rw [tagMatchesState_iff] at hm ⊢
  rwa [(hc x).1, (hc x).2]

/-- The poll mode follows without touching the tags. -/
theorem Ends.sync {s t : State} (h : Ends s t) : Ends s (syncPollMode t) := by
  obtain ⟨l, n, u, b, _, e⟩ := syncPollMode_pollOnly t
  rw [e]
  exact h.unmoved rfl (fun _ => ⟨rfl, rfl⟩)

theorem ends_finishDip {h : Hoist} {s : State} (ht : (s.contexts.get h).tag.isSome = true) :
    Ends s (finishDip h s) := (ends_toIdle _ _).after (upholds_releaseClaim (fun _ => ht))

theorem ends_dipNormal (h : Hoist) (w : Int) (s : State) : Ends s (dipNormal h w s) := by
  unfold dipNormal
  split
  · next t ht =>
    have closed := upholds_closeNormal (s.contexts.get h) t (recordHoist h s) w s
    refine (ends_finishDip ?_).after closed
    rw [closed.tags, ht]
    rfl
  · exact (Upholds.refl s).ends

/-- The tests of WEIGHING: the claim released, and then the wet weight (R89). -/
theorem ends_sampleWeighing {h : Hoist} {s : State} (hw : (s.contexts.get h).state = .weighing) :
    Ends s (sampleWeighing h s) := by
  have wet (u : State) : Ends u (match dipFiltered h u with
      | some f => if dipSettled h u then dipNormal h f u else u
      | none => u) := by
    split
    · split
      · exact ends_dipNormal h _ u
      · exact (Upholds.refl u).ends
    · exact (Upholds.refl u).ends
  refine (wet _).after ?_
  split
  · split
    · exact upholds_releaseClaim (fun hu => hu.tagged (by simp [hw]) (by simp [hw]))
    · exact .refl s
  · exact .refl s

/-- A context that leaves ABANDONED has no tag, and no claim of its own waits (R93). -/
theorem upright_leaves {h : Hoist} {s : State} (ha : (s.contexts.get h).state = .abandoned) (hu : Upright s) :
    Upright (s.setContext h (s.contexts.get h).toIdle) := by
  refine ⟨fun x => ?_, fun x hp => ?_, fun w hw x hx => ?_⟩
  · rw [State.setContext_get]
    split
    · rfl
    · exact hu.matched x
  · rw [State.setContext_get] at hp ⊢
    split at hp
    · cases hp
    · next hne => rw [if_neg hne]; exact hu.paired x hp
  · obtain ⟨ht, hl⟩ := hu.waits w hw x hx
    rw [State.setContext_get, if_neg (by rintro rfl; exact hl ha)]
    exact ⟨ht, hl⟩

theorem ends_sampleAbandoned {h : Hoist} {s : State} (ha : (s.contexts.get h).state = .abandoned) :
    Ends s (sampleAbandoned h s) := by
  have kept : TagsKept s (s.setContext h (s.contexts.get h).toIdle) := by
    refine .of_contexts rfl fun x y hy => ?_
    rw [State.setContext_get] at hy
    split at hy
    · cases hy
    · exact hy
  have left {t : State} (ht : Upholds (s.setContext h (s.contexts.get h).toIdle) t) : Ends s t :=
    ⟨kept.trans ht.tagsKept, fun hu => (ht.upright (upright_leaves ha hu)).matched⟩
  unfold sampleAbandoned
  split
  · simp only
    split
    · split
      · split
        · exact left (.refl _)
        · exact left (upholds_releaseZones _ _)
      · exact left (upholds_releaseZones _ _)
    · exact (Upholds.refl s).ends
  · exact (Upholds.refl s).ends

/-- A context that stays without a tag, in IDLE or JIG_WEIGH (R94, R95). -/
theorem ends_untagged {h : Hoist} {c : Context} {s : State} (ht : c.tag = (s.contexts.get h).tag)
    (hs : (s.contexts.get h).state = .idle ∨ (s.contexts.get h).state = .jigWeigh)
    (hc : c.state = .idle ∨ c.state = .jigWeigh) : Ends s (s.setContext h c) := by
  refine ⟨.of_contexts rfl fun x y hy => ?_, fun hu x => ?_⟩
  · rw [State.setContext_get] at hy
    split at hy
    · next e => rw [e, ← ht]; exact hy
    · exact hy
  · rw [State.setContext_get]
    split
    · have hm := hu.matched h
      rw [tagMatchesState_iff, ← not_or] at hm ⊢
      rw [ht, hm, not_iff_not]
      exact iff_of_true hs hc
    · exact hu.matched x

theorem ends_sampleJigWeigh {h : Hoist} {s : State} (hj : (s.contexts.get h).state = .jigWeigh) :
    Ends s (sampleJigWeigh h s) := by
  unfold sampleJigWeigh
  split
  · split
    · unfold completeJigWeigh
      have done (j : JigWeigh) (u : State) (hu : (u.contexts.get h).state = .jigWeigh) :
          Ends u (u.setContext h { u.contexts.get h with state := .idle, jigWeigh := j }) :=
        ends_untagged rfl (.inr hu) (.inl rfl)
      exact (done _ (modJig _ _ s) hj).after (upholds_modJig s (fun _ => rfl) (fun _ => rfl))
    · exact (Upholds.refl s).ends
  · exact (Upholds.refl s).ends

end Sys2Proof.Machine
end

section
/-! Every event of a dip keeps the tags in order and the poll mode right: the samples, the timers and the abort (R76, R88,
R90, R92, R95, R121). -/

namespace Sys2Proof.Machine

/-! ## The sample at a context (R76) -/

theorem ends_sampleTagged (h : Hoist) (s : State) : Ends s (sampleTagged h s) := by
  unfold sampleTagged
  split
  · next ht _ _ =>
    have tagged : (s.contexts.get h).tag.isSome = true := by rw [ht]; rfl
    split
    · split
      · refine (upholds_dip (.to_state .ready ?_ ?_ ?_ rfl) (fun _ => tagged)).ends <;> exact fun _ => rfl
      · refine (upholds_dip (.of_state ?_ ?_ ?_) (fun _ => tagged)).ends <;> exact fun _ => rfl
    · exact (Upholds.refl s).ends
  · exact (Upholds.refl s).ends

theorem ends_sampleReady {h : Hoist} {s : State} (hr : (s.contexts.get h).state = .ready) :
    Ends s (sampleReady h s) := by
  unfold sampleReady
  split
  · next ht _ =>
    split
    · exact (upholds_submitClaim _ _ (by rw [ht]; rfl) (by simp [hr])).ends
    · exact (Upholds.refl s).ends
  · exact (Upholds.refl s).ends

theorem ends_sampleLowering {h : Hoist} {s : State} (hl : (s.contexts.get h).state = .lowering) :
    Ends s (sampleLowering h s) := by
  unfold sampleLowering
  split
  · split
    · refine (upholds_dip (.to_state .entering ?_ ?_ ?_ rfl) fun hu => hu.tagged (by simp [hl]) (by simp [hl])).ends
        <;> exact fun _ => rfl
    · exact (Upholds.refl s).ends
  · exact (Upholds.refl s).ends

theorem ends_sampleEntering (h : Hoist) (s : State) : Ends s (sampleEntering h s) := by
  unfold sampleEntering
  split
  · next hp _ _ _ =>
    split
    · exact (upholds_enterImmersed _ _ (tagProfile_tagged hp)).ends
    · split
      · exact (upholds_enterDraining _ _ (tagProfile_tagged hp)).ends
      · exact (Upholds.refl s).ends
  · exact (Upholds.refl s).ends

theorem ends_sampleImmersed (h : Hoist) (s : State) : Ends s (sampleImmersed h s) := by
  unfold sampleImmersed
  split
  · next hp _ _ =>
    split
    · refine (upholds_dip (.to_state .withdrawing ?_ ?_ ?_ rfl) (fun _ => tagProfile_tagged hp)).ends
        <;> exact fun _ => rfl
    · exact (Upholds.refl s).ends
  · exact (Upholds.refl s).ends

theorem ends_sampleWithdrawing (h : Hoist) (s : State) : Ends s (sampleWithdrawing h s) := by
  unfold sampleWithdrawing
  split
  · next hp _ _ _ =>
    split
    · exact (upholds_enterImmersed _ _ (tagProfile_tagged hp)).ends
    · split
      · exact (upholds_enterDraining _ _ (tagProfile_tagged hp)).ends
      · exact (Upholds.refl s).ends
  · exact (Upholds.refl s).ends

theorem ends_transitionTest (h : Hoist) (s : State) : Ends s (transitionTest h s) := by
  unfold transitionTest
  cases hs : (s.contexts.get h).state with
  | idle | waitingZone | draining => exact (Upholds.refl s).ends
  | jigWeigh => exact ends_sampleJigWeigh hs
  | tagged => exact ends_sampleTagged h s
  | ready => exact ends_sampleReady hs
  | lowering => exact ends_sampleLowering hs
  | entering => exact ends_sampleEntering h s
  | immersed => exact ends_sampleImmersed h s
  | withdrawing => exact ends_sampleWithdrawing h s
  | weighing => exact ends_sampleWeighing hs
  | abandoned => exact ends_sampleAbandoned hs

/-- The in-bath updates change figures and notices. -/
theorem Ends.inBathUpdates {s t : State} (he : Ends s t) (h : Hoist) (found : DipState) :
    Ends s (inBathUpdates h found t) := by
  unfold Machine.inBathUpdates
  split
  · simp only
    split
    · refine he.unmoved (by simp [modContexts_tables]) ?_
      simp only [setNoticeIf_contexts]
      exact modContexts_induct (P := fun x c => c.tag = (t.contexts.get x).tag ∧ c.state = (t.contexts.get x).state)
        (fun _ _ _ hc => hc) (fun _ => ⟨rfl, rfl⟩)
    · exact he
  · exact he

theorem ends_contextSample (h : Hoist) (s : State) : Ends s (contextSample h s) :=
  (((ends_transitionTest h _).after (upholds_markOverload h s)).inBathUpdates h _).sync

/-! ## Timers and the abort -/

theorem ends_drainExpired (h : Hoist) (s : State) : Ends s (drainExpired h s) := by
  unfold drainExpired
  split
  · next hp =>
    exact (upholds_enterWeighing _ fun hu => members_tagged hu (fun _ => rfl) (tagProfile_tagged hp)).ends.sync
  · exact (Upholds.refl s).ends

theorem ends_weighExpired (h : Hoist) (s : State) : Ends s (weighExpired h s) := by
  unfold weighExpired
  split
  · next t ht =>
    have closed := upholds_closeUnweighed (s.contexts.get h) t (recordHoist h s) s
    refine ((ends_finishDip ?_).after closed).sync
    rw [closed.tags, ht]
    rfl
  · exact (Upholds.refl s).ends

theorem ends_jigWeighExpired {h : Hoist} {s : State} (hj : (s.contexts.get h).state = .jigWeigh) :
    Ends s (jigWeighExpired h s) := ends_untagged rfl (.inr hj) (.inl rfl)

/-- Contexts with a tag enter ABANDONED with it (R92). -/
theorem ends_abort {ms : List Hoist} {s : State}
    (hms : Upright s → ∀ x ∈ ms, (s.contexts.get x).tag.isSome = true) : Ends s (modContexts ms Context.abort s) := by
  refine ⟨tagsKept_modContexts (fun _ _ hx => hx), fun hu => ?_⟩
  have both := modContexts_induct (ms := ms) (f := Context.abort) (s := s)
    (P := fun x c => (x ∈ ms → c.tag.isSome = true) ∧ c.tagMatchesState = true)
    (fun x hx c hc => ⟨hc.1, (tagMatchesState_iff _).2 (iff_of_true (hc.1 hx) ⟨nofun, nofun⟩)⟩)
    (fun x => ⟨hms hu x, hu.matched x⟩)
  exact fun x => (both x).2

theorem ends_abortDip (h : Hoist) (s : State) : Ends s (abortDip h s) := by
  unfold abortDip
  split
  · next t ht =>
    have tagged : (s.contexts.get h).tag.isSome = true := by rw [ht]; rfl
    have marked : Upholds s (modContexts (members h s) Context.markNoContact s) :=
      upholds_dip (.of_state (fun _ => rfl) (fun _ => rfl) (fun _ => rfl)) (fun _ => tagged)
    have closed := marked.trans (upholds_closeAborted ((modContexts (members h s) Context.markNoContact s).contexts.get h)
      t (recordHoist h (modContexts (members h s) Context.markNoContact s)) _)
    exact ((ends_abort fun hu => members_tagged hu closed.pairs (by rw [closed.tags]; exact tagged)).after closed).sync
  · exact (Upholds.refl s).ends

/-! ## The poll mode (R120, R121) -/

theorem pollModeOk_of_same {s t : State} (hp : pollModeOk s = true) (hm : t.bath.mode = s.bath.mode)
    (hb : bathActive t = bathActive s) : pollModeOk t = true := by
  rw [pollModeOk, hm, hb]
  exact hp

theorem bathActive_of_states {s t : State} (hc : ∀ h, (t.contexts.get h).state.overKettle
    = (s.contexts.get h).state.overKettle) : bathActive t = bathActive s :=
  congrArg₂ (· || ·) (hc .h1) (hc .h2)

theorem pollModeOk_abortDip {h : Hoist} {s : State} (hp : pollModeOk s = true) : pollModeOk (abortDip h s) = true := by
  unfold abortDip
  split
  · exact syncPollMode_ok _
  · exact hp

theorem pollModeOk_drainExpired {h : Hoist} {s : State} (hp : pollModeOk s = true) :
    pollModeOk (drainExpired h s) = true := by
  unfold drainExpired
  split
  · exact syncPollMode_ok _
  · exact hp

theorem pollModeOk_weighExpired {h : Hoist} {s : State} (hp : pollModeOk s = true) :
    pollModeOk (weighExpired h s) = true := by
  unfold weighExpired
  split
  · exact syncPollMode_ok _
  · exact hp

/-- One context replaced, as much over the kettle as it was. -/
theorem pollModeOk_setContext {h : Hoist} {c : Context} {s : State} (hp : pollModeOk s = true)
    (hc : c.state.overKettle = (s.contexts.get h).state.overKettle) : pollModeOk (s.setContext h c) = true := by
  refine pollModeOk_of_same hp rfl (bathActive_of_states fun x => ?_)
  rw [State.setContext_get]
  split
  · next e => rw [e, hc]
  · rfl

theorem pollModeOk_jigWeighExpired {h : Hoist} {s : State} (hj : (s.contexts.get h).state = .jigWeigh)
    (hp : pollModeOk s = true) : pollModeOk (jigWeighExpired h s) = true :=
  pollModeOk_setContext hp (by rw [hj]; rfl)

end Sys2Proof.Machine
end

section
/-! The owning rules of the management requests and the tags: those that change a table leave what a tag names, and TAG LOAD
tags only what its checks have found (R63, R66, R67, R69, R102 to R104, R135, R136). -/

namespace Sys2Proof.Machine

/-! ## What a rule leaves -/

/-- `t` comes after `s` with the state and the tag of each context and the poll mode as they were, and each tag naming
what it named, its zones in service as they were. -/
structure Stays (s t : State) : Prop where
  tag : ∀ h, (t.contexts.get h).tag = (s.contexts.get h).tag
  state : ∀ h, (t.contexts.get h).state = (s.contexts.get h).state
  mode : t.bath.mode = s.bath.mode
  named : ∀ h x, (s.contexts.get h).tag = some x → NamesTables x s → NamesTables x t
  zones : ∀ h x, (s.contexts.get h).tag = some x → tagZonesInService x s.tables.zoneMap = true →
    tagZonesInService x t.tables.zoneMap = true

theorem Stays.trans {s t u : State} (h : Stays s t) (h' : Stays t u) : Stays s u :=
  ⟨fun x => (h'.tag x).trans (h.tag x), fun x => (h'.state x).trans (h.state x), h'.mode.trans h.mode,
    fun x y hy hn => h'.named x y ((h.tag x).trans hy) (h.named x y hy hn),
    fun x y hy hz => h'.zones x y ((h.tag x).trans hy) (h.zones x y hy hz)⟩

/-- A change of the tables alone, each tag naming what it named and the zone map the same. -/
theorem Stays.of_named {s t : State} (hc : t.contexts = s.contexts) (hm : t.bath.mode = s.bath.mode)
    (hz : t.tables.zoneMap = s.tables.zoneMap)
    (hn : ∀ h x, (s.contexts.get h).tag = some x → NamesTables x s → NamesTables x t) : Stays s t :=
  ⟨fun h => by rw [hc], fun h => by rw [hc], hm, hn, fun _ _ _ h => by rwa [hz]⟩

/-- A change of the zone map alone, the zones of each tag in service as they were. -/
theorem stays_setZoneMap {s : State} {m : ZoneMap} (hz : ∀ h x, (s.contexts.get h).tag = some x →
    tagZonesInService x s.tables.zoneMap = true → tagZonesInService x m = true) : Stays s (s.setZoneMap m) :=
  ⟨fun _ => rfl, fun _ => rfl, rfl, fun _ _ _ hn => hn.congr rfl rfl rfl, hz⟩

/-- A change of other parts. -/
theorem Stays.of_same {s t : State} (hc : t.contexts = s.contexts) (hm : t.bath.mode = s.bath.mode)
    (hz : t.tables.zoneMap = s.tables.zoneMap) (hj : t.tables.jobs = s.tables.jobs)
    (hg : t.tables.jigs = s.tables.jigs) (hp : t.tables.profiles = s.tables.profiles) : Stays s t :=
  .of_named hc hm hz (fun _ _ _ hn => hn.congr hj hg hp)

theorem Stays.refl (s : State) : Stays s s := .of_same rfl rfl rfl rfl rfl rfl

theorem Aside.stays {s t : State} (h : Aside s t) : Stays s t :=
  .of_same h.contexts h.mode (by rw [h.tables]) (by rw [h.tables]) (by rw [h.tables]) (by rw [h.tables])

/-- A check before the rest of a rule. -/
theorem stays_check {c : Prop} [Decidable c] {st : Status} {s : State} {r : Answer}
    (h : ¬ c → Stays s r.state) : Stays s (if c then refuse st s else r).state := by
  split
  · exact .refl s
  · next hc => exact h hc

theorem stays_readPage {s t : State} (page : Nat) (items : List Item) (h : Stays s t) :
    Stays s (readPage page items s t).state := by
  unfold readPage
  split
  · exact h
  · exact .refl s

theorem stays_reading (page : Nat) (items : List Item) (s : State) : Stays s (readPage page items s s).state :=
  stays_readPage page items (.refl s)

/-! ## Jobs (R131 to R136) -/

theorem anyTag_false {f : TagArgs → Bool} {s : State} (h : anyTag f s = false) {x : Hoist} {t : TagArgs}
    (ht : (s.contexts.get x).tag = some t) : f t = false := by
  simp only [anyTag, Bool.or_eq_false_iff] at h
  cases x
  · exact (Option.any_eq_false _ _).1 h.1 t ht
  · exact (Option.any_eq_false _ _).1 h.2 t ht

/-- A tag's job is another than one that no tag names. -/
theorem job_ne_of_unused {n : Nat} {s : State} (hu : (jobUsers n s).isEmpty = true) {h : Hoist} {x : TagArgs}
    (hx : (s.contexts.get h).tag = some x) : x.job ≠ n := by
  rw [jobUsers, hoistsTagged_isEmpty, Bool.not_eq_true'] at hu
  simpa using anyTag_false hu hx

theorem stays_modJob {n : Nat} {f : Job → Job} {s : State} (hn : ∀ j, (f j).number = j.number)
    (hs : ∀ h x, (s.contexts.get h).tag = some x → x.job = n → ∀ j, j.status ≠ .closed → (f j).status ≠ .closed) :
    Stays s (modJob n f s) := .of_named rfl rfl rfl (fun h x hx hx' => hx'.modJob hn (hs h x hx))

theorem stays_openJobRule (n rMin rMax hold : Nat) (s : State) : Stays s (openJobRule n rMin rMax hold s).state := by
  refine stays_check fun _ => stays_check fun _ => stays_check fun _ => .of_named rfl rfl rfl fun _ x _ hx => ?_
  refine ⟨?_, hx.jig, hx.profile⟩
  obtain ⟨j, hj, hl⟩ := (Option.any_eq_true _ _).1 hx.job
  exact (Option.any_eq_true _ _).2 ⟨j, List.find?_append.trans (congrArg (Option.or · _) hj), hl⟩

theorem stays_setJobBandRule (n rMin rMax hold : Nat) (s : State) :
    Stays s (setJobBandRule n rMin rMax hold s).state := by
  refine stays_check fun _ => ?_
  split
  · exact .refl s
  · exact stays_check fun _ => stays_modJob (fun _ => rfl) (fun _ _ _ _ _ hj => hj)

theorem stays_resumeJobRule (n : Nat) (s : State) : Stays s (resumeJobRule n s).state := by
  unfold resumeJobRule
  split
  · exact .refl s
  · exact stays_check fun _ => stays_modJob (fun _ => rfl) (fun _ _ _ _ _ _ => nofun)

/-- CLOSE JOB closes a job that no tag names (R135). -/
theorem stays_closeJobRule (n : Nat) (s : State) : Stays s (closeJobRule n s).state := by
  refine stays_check fun _ => stays_check fun hu => stays_modJob (fun _ => rfl) fun _ _ hx he => ?_
  exact absurd he (job_ne_of_unused (by simpa using hu) hx)

/-- A table entry found stays so when others are filtered out. -/
theorem find?_filter_of_imp {α : Type} {p q : α → Bool} (h : ∀ a, q a = true → p a = true) (l : List α) :
    (l.filter p).find? q = l.find? q := by
  rw [List.find?_filter]
  congr 1
  funext a
  cases hq : q a
  · simp
  · simp [h a hq]

/-- RELEASE JOB removes a job that is CLOSED, and so is in no tag that names a live one (R136). -/
theorem stays_releaseJobRule (n : Nat) (s : State) : Stays s (releaseJobRule n s).state := by
  unfold releaseJobRule
  split
  · exact .refl s
  · next j hj =>
    refine stays_check fun hs => .of_named rfl rfl rfl fun _ x _ hx => ⟨?_, hx.jig, hx.profile⟩
    have hne : x.job ≠ n := by
      rintro rfl
      obtain ⟨k, hk, hl⟩ := (Option.any_eq_true _ _).1 hx.job
      obtain rfl := Option.some.inj (hj.symm.trans hk)
      simp [not_not.1 hs] at hl
    have same : findJob x.job (s.setJobs (s.tables.jobs.filter (fun j => j.number != n))) = findJob x.job s := by
      refine find?_filter_of_imp (fun j hm => ?_) _
      rw [beq_iff_eq] at hm
      simpa [hm] using hne
    have hl := hx.job
    unfold jobLive at hl ⊢
    rw [← same] at hl
    exact hl

/-! ## Jigs (R64 to R67) -/

/-- A tag's jig is another than one that is not in use. -/
theorem jig_ne_of_unused {n : Nat} {s : State} (hu : (jigUsers n s).isEmpty = true) {h : Hoist} {x : TagArgs}
    (hx : (s.contexts.get h).tag = some x) : x.jig ≠ n := by
  rw [jigUsers_isEmpty, Bool.not_eq_true', jigInUse, Bool.or_eq_false_iff] at hu
  have unused : hoistUsesJig h n s = false := by
    cases h
    · exact hu.1
    · exact hu.2
  rw [hoistUsesJig, Bool.or_eq_false_iff] at unused
  simpa using (Option.any_eq_false _ _).1 unused.1 x hx

theorem stays_modJig {n : Nat} {f : Jig → Jig} {s : State} (hn : ∀ j, (f j).id = j.id)
    (hs : ∀ h x, (s.contexts.get h).tag = some x → x.jig = n → ∀ j, j.status = .inService → (f j).status = .inService) :
    Stays s (modJig n f s) := .of_named rfl rfl rfl (fun h x hx hx' => hx'.modJig hn (hs h x hx))

theorem stays_loadJigRule (n tare allowance : Nat) (s : State) : Stays s (loadJigRule n tare allowance s).state := by
  refine stays_check fun _ => ?_
  split
  · exact stays_check fun _ => stays_modJig (fun _ => rfl) (fun _ _ _ _ _ hj => hj)
  · refine stays_check fun _ => .of_named rfl rfl rfl fun _ x _ hx => ⟨hx.job, ?_, hx.profile⟩
    obtain ⟨j, hj, hl⟩ := (Option.any_eq_true _ _).1 hx.jig
    exact (Option.any_eq_true _ _).2 ⟨j, List.find?_append.trans (congrArg (Option.or · _) hj), hl⟩

/-- WITHDRAW JIG withdraws a jig that is not in use (R66). -/
theorem stays_withdrawJigRule (n : Nat) (s : State) : Stays s (withdrawJigRule n s).state := by
  refine stays_check fun _ => stays_check fun hu => stays_modJig (fun _ => rfl) fun _ _ hx he => ?_
  exact absurd he (jig_ne_of_unused (by simpa using hu) hx)

theorem stays_returnJigRule (n : Nat) (s : State) : Stays s (returnJigRule n s).state :=
  stays_check fun _ => stays_modJig (fun _ => rfl) (fun _ _ _ _ _ _ => rfl)

/-- REMOVE JIG removes a jig that is not in use (R67). -/
theorem stays_removeJigRule (n : Nat) (s : State) : Stays s (removeJigRule n s).state := by
  refine stays_check fun _ => stays_check fun hu => .of_named rfl rfl rfl fun _ x hx hn => ⟨hn.job, ?_, hn.profile⟩
  have hne := jig_ne_of_unused (by simpa using hu) hx
  have same : findJig x.jig (s.setJigs (s.tables.jigs.filter (fun j => j.id != n))) = findJig x.jig s := by
    refine find?_filter_of_imp (fun j hm => ?_) _
    rw [beq_iff_eq] at hm
    simpa [hm] using hne
  have hs := hn.jig
  unfold jigServes at hs ⊢
  rw [← same] at hs
  exact hs

/-! ## Profiles (R61 to R63) -/

theorem findProfile_setProfile_same {n : Nat} (x : Option Profile) (s : State) (hn : within 1 16 n = true) :
    findProfile n (setProfile n x s) = x := by
  simp only [within, Bool.and_eq_true, decide_eq_true_eq] at hn
  simp only [findProfile, setProfile, State.setTables_tables]
  rw [if_neg (by omega), Vector.getElem?_setIfInBounds_self_of_lt (by omega)]
  rfl

theorem findProfile_setProfile_ne {m n : Nat} (x : Option Profile) (s : State) (hn : within 1 16 n = true)
    (h : m ≠ n) : findProfile m (setProfile n x s) = findProfile m s := by
  simp only [within, Bool.and_eq_true, decide_eq_true_eq] at hn
  simp only [findProfile, setProfile, State.setTables_tables]
  split
  · rfl
  · rw [Vector.getElem?_setIfInBounds_ne (by omega)]

theorem stays_loadProfileRule (n : Nat) (x : Profile) (s : State) : Stays s (loadProfileRule n x s).state := by
  refine stays_check fun hw => stays_check fun _ => stays_check fun _ => .of_named rfl rfl rfl fun _ y _ hy => ?_
  refine ⟨hy.job, hy.jig, ?_⟩
  simp only [Bool.not_eq_true', Bool.not_eq_false] at hw
  by_cases e : y.profile = n
  · rw [e, accept, findProfile_setProfile_same _ s hw]
    rfl
  · rw [accept, findProfile_setProfile_ne _ s hw e]
    exact hy.profile

/-- REMOVE PROFILE removes a profile that no tag names (R63). -/
theorem stays_removeProfileRule (n : Nat) (s : State) : Stays s (removeProfileRule n s).state := by
  refine stays_check fun hw => stays_check fun _ => stays_check fun hu => .of_named rfl rfl rfl fun _ y ht hy => ?_
  refine ⟨hy.job, hy.jig, ?_⟩
  simp only [Bool.not_eq_true', Bool.not_eq_false] at hw hu
  rw [profileUsers, hoistsTagged_isEmpty, Bool.not_eq_true'] at hu
  rw [accept, findProfile_setProfile_ne _ s hw (by simpa using anyTag_false hu ht)]
  exact hy.profile

/-! ## Zones (R102 to R104) -/

/-- Zones that are in service stay so, where a tag has them in its set. -/
theorem tagZonesInService_mono {x : TagArgs} {m m' : ZoneMap} (hz : ∀ z, inSet x.firstZone x.lastZone z = true →
    (m.zones.get z).inService = true → (m'.zones.get z).inService = true) (h : tagZonesInService x m = true) :
    tagZonesInService x m' = true := by
  unfold tagZonesInService at h ⊢
  rw [List.all_eq_true] at h ⊢
  intro z hm
  have hm := h z hm
  rw [Bool.or_eq_true, Bool.not_eq_true'] at hm ⊢
  cases hs : inSet x.firstZone x.lastZone z
  · exact .inl rfl
  · exact .inr (hz z hs (hm.resolve_left (by simp [hs])))

theorem stays_setDrossCeilingRule (n : Nat) (ceiling : Int) (s : State) :
    Stays s (setDrossCeilingRule n ceiling s).state := by
  unfold setDrossCeilingRule
  split
  · exact .refl s
  · refine stays_check fun _ => stays_check fun _ => stays_setZoneMap fun _ _ _ => ?_
    refine tagZonesInService_mono fun z _ hz => ?_
    rw [ZoneMap.setZone, PerZone.get_set]
    split
    · next e => rwa [← e]
    · exact hz

/-- SET ZONE SERVICE takes no zone out of service that a tag has in its set (R104). -/
theorem stays_setZoneServiceRule (n value : Nat) (s : State) : Stays s (setZoneServiceRule n value s).state := by
  unfold setZoneServiceRule
  split
  · next r on _ _ =>
    refine stays_check fun hu => stays_setZoneMap fun _ x hx => tagZonesInService_mono fun z hs hz => ?_
    rw [ZoneMap.setZone, PerZone.get_set]
    split
    · next e =>
      subst e
      simp only [zoneTagged, hoistsTagged_isEmpty, Bool.not_not, Bool.and_eq_true, Bool.not_eq_true', not_and,
        Bool.not_eq_true] at hu
      cases on with
      | true => rfl
      | false => simp [anyTag_false (hu rfl) hx] at hs
    · exact hz
  · exact .refl s

/-! ## The other rules -/

theorem aside_redateFigures (n : Nat) (s : State) : Aside s (redateFigures n s) := by
  unfold redateFigures
  simp only
  split
  · exact Aside.after (aside_holdStale _) (aside_setBath rfl)
  · exact aside_setBath rfl

theorem aside_changeBathStation (a b : Option Nat) (s : State) : Aside s (changeBathStation a b s) := by
  unfold changeBathStation
  split
  · exact aside_pollDue s
  · exact Aside.after (aside_setBath rfl) (aside_setPort _ _ _)
  · exact .refl s

theorem stays_loadBathSettingsRule (x : BathArgs) (s : State) : Stays s (loadBathSettingsRule x s).state := by
  refine stays_check fun _ => stays_check fun _ => stays_check fun _ => ?_
  refine Stays.trans ?_ ((aside_redateFigures _ _).trans (aside_changeBathStation _ _ _)).stays
  exact .of_same rfl rfl rfl rfl rfl rfl

theorem stays_removalRule (mass : Nat) (s : State) : Stays s (removalRule mass s).state := by
  refine stays_check fun _ => Stays.trans ?_ (aside_setNoticeIf _ _ _).stays
  exact .of_same rfl rfl rfl rfl rfl rfl

/-- A maintenance permit given or cleared (R71). -/
theorem stays_permit (h : Hoist) (b : Bool) (s : State) :
    Stays s (s.setContext h { s.contexts.get h with permit := b }) := by
  have at' (x : Hoist) : (s.setContext h { s.contexts.get h with permit := b }).contexts.get x
      = { s.contexts.get x with permit := if x = h then b else (s.contexts.get x).permit } := by
    rw [State.setContext_get]
    split
    · next e => rw [e]
    · rfl
  refine ⟨fun x => ?_, fun x => ?_, rfl, fun _ _ _ hn => hn.congr rfl rfl rfl, fun _ _ _ hz => hz⟩ <;> rw [at']

/-- Every owning rule but the four that change a context or replace the zone map. Those cited by no lemma above write
no table that a tag names and no context. -/
theorem ruleOf_stays {i : Instr} (ht : ∀ q x, i ≠ .tagLoad q x) (hc : ∀ q n, i ≠ .cancelLoad q n)
    (hj : ∀ q n m, i ≠ .weighJig q n m) (hz : ∀ q x, i ≠ .loadZoneMap q x) (s : State) :
    Stays s (ruleOf i s).state := by
  cases i with
  | tagLoad q x => exact absurd rfl (ht q x)
  | cancelLoad q n => exact absurd rfl (hc q n)
  | weighJig q n m => exact absurd rfl (hj q n m)
  | loadZoneMap q x => exact absurd rfl (hz q x)
  | openJob q n rMin rMax hold => exact stays_openJobRule n rMin rMax hold s
  | setJobBand q n rMin rMax hold => exact stays_setJobBandRule n rMin rMax hold s
  | resumeJob q n => exact stays_resumeJobRule n s
  | closeJob q n => exact stays_closeJobRule n s
  | releaseJob q n => exact stays_releaseJobRule n s
  | loadJig q n tare allowance => exact stays_loadJigRule n tare allowance s
  | withdrawJig q n => exact stays_withdrawJigRule n s
  | returnJig q n => exact stays_returnJigRule n s
  | removeJig q n => exact stays_removeJigRule n s
  | loadProfile q n x => exact stays_loadProfileRule n x s
  | removeProfile q n => exact stays_removeProfileRule n s
  | setDrossCeiling q n ceiling => exact stays_setDrossCeilingRule n ceiling s
  | setZoneService q n value => exact stays_setZoneServiceRule n value s
  | loadBathSettings q x => exact stays_loadBathSettingsRule x s
  | drossRemoved q mass | ashRemoved q mass => exact stays_removalRule mass s
  | readStatus q page => exact stays_readPage _ _ (.of_same rfl rfl rfl rfl rfl rfl)
  | setMaintenancePermit q n value =>
    simp only [ruleOf, setMaintenancePermitRule]
    split
    · split
      · exact stays_permit _ true s
      · exact .refl s
    · exact stays_permit _ false s
    · exact .refl s
  | readMotion | readZones | readBath | readBalance | readQueue =>
    simp only [ruleOf, readMotionRule, readZonesRule, readBathRule, readBalanceRule, readQueueRule]
    exact stays_reading _ _ s
  | readPortStatus q port page =>
    simp only [ruleOf, readPortStatusRule]
    split
    · exact .refl s
    · refine stays_readPage page _ ?_
      split <;> exact .of_same rfl rfl rfl rfl rfl rfl
  | readProfile q n page =>
    simp only [ruleOf, readProfileRule]
    refine stays_check fun _ => ?_
    split
    · exact .refl s
    · exact stays_reading page _ s
  | readTrap q entry page =>
    simp only [ruleOf, readTrapRule]
    split
    · exact stays_reading page _ s
    · exact .refl s
  | readWeight | readJig | readContext | readJob =>
    simp only [ruleOf, readWeightRule, readJigRule, readContextRule, readJobRule]
    split
    · exact .refl s
    · exact stays_reading _ _ s
  | saveTables | lockCalibration | loadCalibration | rezeroHook =>
    simp only [ruleOf, lockCalibrationRule, loadCalibrationRule, rezeroHookRule]
    repeat' split
    all_goals exact .of_same rfl rfl rfl rfl rfl rfl
  | setAddress | loadWindows | setPortTiming | loadTrap | loadHoistSettings | setOperatorCap =>
    simp only [ruleOf, setAddressRule, loadWindowsRule, setPortTimingRule, loadTrapRule, loadHoistSettingsRule,
      setOperatorCapRule]
    repeat' split
    all_goals exact .of_same rfl rfl rfl rfl rfl rfl
  | zincAdded | setBalance | setBalanceToLevel | peekRecord | takeRecord =>
    simp only [ruleOf, zincAddedRule, setBalanceRule, setBalanceToLevelRule, peekRecordRule, takeRecordRule]
    repeat' split
    all_goals exact .of_same rfl rfl rfl rfl rfl rfl
  | readNotices | clearNotices | setNoticeLevels =>
    simp only [ruleOf, readNoticesRule, clearNoticesRule, setNoticeLevelsRule]
    repeat' split
    all_goals exact .of_same rfl rfl rfl rfl rfl rfl
  | _ => exact .refl s

end Sys2Proof.Machine
end

section
/-! TAG LOAD, CANCEL LOAD and SET MAINTENANCE PERMIT, by their checks in order and their effects (R68 to R71, R78, R110,
R111, R114). -/

namespace Sys2Proof.Machine

/-! ## The checks of TAG LOAD (R69, R110) -/

/-- TAG LOAD's checks 2 to 11 in order, each a failing condition with its status. -/
def tagChecks (h : Hoist) (x : TagArgs) (s : State) : List (Bool × Status) :=
  let o := s.contexts.get h.other
  [(decide ((s.contexts.get h).state ≠ .idle), .busy), ((s.contexts.get h).permit, .notAllowed),
   ((s.tables.calibration.get h).isNone, .notCalibrated),
   ((findJob x.job s).isNone, .notFound), ((findJob x.job s).any (fun j => j.status == .closed), .notAllowed),
   ((findJob x.job s).any (fun j => j.status == .held), .held),
   ((findJig x.jig s).isNone, .notFound), ((findJig x.jig s).any (fun j => j.status == .withdrawn), .notAllowed),
   (hoistUsesJig h.other x.jig s && !(decide (x.token ≠ 0) && o.state == .tagged && o.pair == .partnerPending
      && o.tag.any (fun t => t.token == x.token)), .inUse),
   ((findProfile x.profile s).isNone, .notFound),
   (decide (x.loadDepth < 100 ∨ 12000 < x.loadDepth ∨ x.workHeight < 50 ∨ x.loadDepth < x.workHeight), .outOfRange),
   (decide (x.firstZone < 1 ∨ 4 < x.lastZone ∨ x.lastZone < x.firstZone ∨ 255 < x.token), .outOfRange),
   (Zone.all.any (fun z => decide (x.firstZone ≤ z.num ∧ z.num ≤ x.lastZone)
      && !(s.tables.zoneMap.zones.get z).inService), .notAllowed),
   (decide (x.token ≠ 0) && o.pair == .partnerPending
      && o.tag.any (fun t => t.token != x.token || t.job != x.job || t.jig != x.jig || t.profile != x.profile
        || t.firstZone != x.firstZone || t.lastZone != x.lastZone), .pairMismatch)]

/-- One check. -/
theorem firstFailure_one (b : Bool) (st : Status) : firstFailure [(b, st)] = if b then some st else none := by
  cases b <;> rfl

/-- Groups of checks made one after another are their checks in order. -/
theorem findSome?_firstFailure (gs : List (List (Bool × Status))) :
    (gs.map firstFailure).findSome? id = firstFailure gs.flatten := by
  induction gs with
  | nil => rfl
  | cons g gs ih =>
    rw [List.map_cons, List.flatten_cons, firstFailure_append, ← ih, List.findSome?_cons]
    cases firstFailure g <;> rfl

theorem ite_none_eq (p : Prop) [Decidable p] (st : Status) :
    (if p then none else some st) = firstFailure [(decide (¬ p), st)] := by
  by_cases hp : p <;> simp [firstFailure_one, hp]

theorem tagJobCheck_eq (x : TagArgs) (s : State) : tagJobCheck x s = firstFailure
    [((findJob x.job s).isNone, .notFound), ((findJob x.job s).any (fun j => j.status == .closed), .notAllowed),
     ((findJob x.job s).any (fun j => j.status == .held), .held)] := by
  unfold tagJobCheck
  cases findJob x.job s with
  | none => rfl
  | some j => cases hs : j.status <;> simp [firstFailure, hs]

theorem tagJigCheck_eq (x : TagArgs) (s : State) : tagJigCheck x s = firstFailure
    [((findJig x.jig s).isNone, .notFound), ((findJig x.jig s).any (fun j => j.status == .withdrawn), .notAllowed)] := by
  unfold tagJigCheck
  cases findJig x.jig s with
  | none => rfl
  | some j => cases hs : j.status <;> simp [firstFailure, hs]

theorem tagJigShared_eq (h : Hoist) (x : TagArgs) (s : State) : tagJigShared h x s = firstFailure
    [(hoistUsesJig h.other x.jig s && !(decide (x.token ≠ 0) && (s.contexts.get h.other).state == .tagged
      && (s.contexts.get h.other).pair == .partnerPending
      && (s.contexts.get h.other).tag.any (fun t => t.token == x.token)), .inUse)] := by
  have token : (x.token != 0) = decide (x.token ≠ 0) := by simp [bne, BEq.beq]
  rw [tagJigShared, firstFailure_one, usesJig_eq, awaitsPartner, token]
  cases (s.contexts.get h.other).tag <;> rfl

theorem tagRanges_eq (x : TagArgs) : (if tagRangesOk x then none else some Status.outOfRange) = firstFailure
    [(decide (x.loadDepth < 100 ∨ 12000 < x.loadDepth ∨ x.workHeight < 50 ∨ x.loadDepth < x.workHeight), .outOfRange),
     (decide (x.firstZone < 1 ∨ 4 < x.lastZone ∨ x.lastZone < x.firstZone ∨ 255 < x.token), .outOfRange)] := by
  have ranges : tagRangesOk x = true ↔
      ¬ (x.loadDepth < 100 ∨ 12000 < x.loadDepth ∨ x.workHeight < 50 ∨ x.loadDepth < x.workHeight)
      ∧ ¬ (x.firstZone < 1 ∨ 4 < x.lastZone ∨ x.lastZone < x.firstZone ∨ 255 < x.token) := by
    simp only [tagRangesOk, within, Bool.and_eq_true, decide_eq_true_eq]
    omega
  simp only [ranges, firstFailure, decide_eq_true_eq]
  split <;> split <;> simp_all

theorem tagZones_eq (x : TagArgs) (m : ZoneMap) : (if tagZonesInService x m then none else some Status.notAllowed)
    = firstFailure [(Zone.all.any (fun z => decide (x.firstZone ≤ z.num ∧ z.num ≤ x.lastZone)
      && !(m.zones.get z).inService), .notAllowed)] := by
  have zones : tagZonesInService x m = !Zone.all.any (fun z => decide (x.firstZone ≤ z.num ∧ z.num ≤ x.lastZone)
      && !(m.zones.get z).inService) := by
    rw [List.not_any_eq_all_not]
    simp [tagZonesInService, inSet]
  rw [zones, firstFailure_one]
  cases Zone.all.any _ <;> rfl

theorem tagPairCheck_eq (x : TagArgs) (o : Context) : tagPairCheck x o = firstFailure
    [(decide (x.token ≠ 0) && o.pair == .partnerPending
      && o.tag.any (fun t => t.token != x.token || t.job != x.job || t.jig != x.jig || t.profile != x.profile
        || t.firstZone != x.firstZone || t.lastZone != x.lastZone), .pairMismatch)] := by
  have agrees (t : TagArgs) : (t.token = x.token ∧ sameLoad x t = true) ↔ (t.token != x.token || t.job != x.job
      || t.jig != x.jig || t.profile != x.profile || t.firstZone != x.firstZone || t.lastZone != x.lastZone) = false := by
    simp only [sameLoad, Bool.and_eq_true, beq_iff_eq, Bool.or_eq_false_iff, bne_eq_false_iff_eq, and_assoc,
      eq_comm (a := x.job), eq_comm (a := x.jig), eq_comm (a := x.profile), eq_comm (a := x.firstZone),
      eq_comm (a := x.lastZone)]
  rw [tagPairCheck, firstFailure_one]
  by_cases h0 : x.token = 0
  · simp [h0]
  · cases o.pair with
    | none | paired => simp [h0]
    | partnerPending =>
      cases o.tag with
      | none => simp [h0]
      | some t =>
        simp only [h0, if_false, agrees, Option.any_some, ne_eq, not_false_eq_true, decide_true, beq_self_eq_true,
          Bool.true_and]
        split <;> simp_all

theorem ite_isSome_eq {α : Type} (o : Option α) (st : Status) :
    (if o.isSome then none else some st) = firstFailure [(o.isNone, st)] := by
  cases o <;> rfl

/-- TAG LOAD is refused by the first of its checks that fails (R69). -/
theorem tagCheck_eq (h : Hoist) (x : TagArgs) (s : State) : tagCheck h x s = firstFailure (tagChecks h x s) := by
  simp only [tagCheck, ite_none_eq ((s.contexts.get h).state = .idle), ite_isSome_eq, tagJobCheck_eq, tagJigCheck_eq,
    tagJigShared_eq, tagRanges_eq, tagZones_eq, tagPairCheck_eq, ← firstFailure_one (s.contexts.get h).permit]
  exact findSome?_firstFailure [[_], [_], [_], [_, _, _], [_, _], [_], [_], [_, _], [_], [_]]

/-! ## The effect of TAG LOAD (R71, R78, R110) -/

/-- A rule's answer, whatever its status, with the state that it leaves. -/
theorem manage_answers {q : Req} {code : Byte} {rule : State → Answer} {st : Status} {data : List Byte} {s s' : State}
    (h : rule s.begin = { status := st, data, state := s'.begin }) :
    manage q code false rule s = .next (answered q code st data s s') := by
  rw [manage_next, h]
  simp [reply_begin]

/-- The contexts that a TAG LOAD leaves: its own TAGGED, alone, PARTNER PENDING or paired, and the other one paired with
it where it waited (log 27). -/
def taggedContexts (h : Hoist) (x : TagArgs) (s : State) : PerHoist Context :=
  let o := s.contexts.get h.other
  (s.contexts.set h { Context.initial with
    jigWeigh := (s.contexts.get h).jigWeigh, state := .tagged, tag := some x
    pair := if x.token = 0 then .none else if o.pair = .partnerPending then .paired else .partnerPending
    flags := if x.token ≠ 0 ∧ o.pair = .partnerPending then o.flags else DipFlags.clear }).set
      h.other (if x.token ≠ 0 ∧ o.pair = .partnerPending then { o with pair := .paired } else o)

theorem takeTag_clearPermit (h : Hoist) (x : TagArgs) (s : State) :
    takeTag h x (clearPermit h s) = { s with contexts := taggedContexts h x s } := by
  have other : (clearPermit h s).contexts.get h.other = s.contexts.get h.other :=
    (State.setContext_get ..).trans (if_neg (Hoist.other_ne h))
  unfold takeTag taggedContexts
  simp only [other]
  by_cases h0 : x.token = 0
  · simp only [h0, ne_eq, not_true_eq_false, false_and, if_true, if_false]
    cases h <;> rfl
  · by_cases hp : (s.contexts.get h.other).pair = .partnerPending
    · simp only [h0, hp, ne_eq, not_false_eq_true, and_self, if_true, if_false]
      cases h <;> rfl
    · simp only [h0, hp, and_false, if_false]
      cases h <;> rfl

/-- TAG LOAD (R69). -/
theorem exec_tagLoad (q : Req) (x : TagArgs) (h : Hoist) (s : State) (hx : x.hoist = h.num) :
    exec (.tagLoad q x) s = .next (match firstFailure (tagChecks h x s) with
      | some st => answered q 0xA2 st [] s { s with
        contexts := s.contexts.set h { s.contexts.get h with permit := false } }
      | none => answered q 0xA2 .done [] s { s with contexts := taggedContexts h x s }) := by
  have checks : tagCheck h x s.begin = firstFailure (tagChecks h x s) := tagCheck_eq h x s.begin
  cases hc : firstFailure (tagChecks h x s) with
  | some st =>
    refine manage_answers (rule := tagLoadRule x) ?_
    simp only [tagLoadRule, hx, hoistOf_num, checks, hc]
    rfl
  | none =>
    refine manage_answers (rule := tagLoadRule x) ?_
    simp only [tagLoadRule, hx, hoistOf_num, checks, hc, takeTag_clearPermit]
    rfl

/-- Settles O26: `tagChecks` are the model's checks in order, and `taggedContexts` the effect. -/
theorem tagLoadChecksAndTags : Obligations.TagLoadChecksAndTags := by
  refine ⟨?_, fun q x s hn => ?_⟩
  · rintro q x h s _ _ hx rfl rfl
    exact exec_tagLoad q x h s hx
  · exact manage_refused q 0xA2 (tagLoadRule x) _ s (by simp only [tagLoadRule, hoistOf_none _ hn])

/-! ## CANCEL LOAD (R70, R114) -/

/-- The effect of CANCEL LOAD on a dip of its own: the waiting claim and the place given up with the tag. -/
theorem cancelTag_alone {h : Hoist} {s : State}
    (hp : (s.contexts.get h).pair ≠ .paired ∨ (s.contexts.get h.other).pair ≠ .paired) :
    cancelTag h s = { s with
      waiting := if (s.contexts.get h).state = .waitingZone then none else s.waiting
      contexts := s.contexts.set h (s.contexts.get h).ended } := by
  simp only [cancelTag, if_neg (not_and_or.2 hp)]
  split <;> rfl

/-- Of a pair, the other context stands PARTNER PENDING again (R114). -/
theorem cancelTag_paired {h : Hoist} {s : State} (hp : (s.contexts.get h).pair = .paired)
    (ho : (s.contexts.get h.other).pair = .paired) (ht : (s.contexts.get h.other).tag.isSome = true) :
    cancelTag h s = { s with
      waiting := if (s.contexts.get h).state = .waitingZone then none else s.waiting
      contexts := (s.contexts.set h (s.contexts.get h).ended).set h.other
        { (s.contexts.get h.other).ended with
          state := .tagged, tag := (s.contexts.get h.other).tag, pair := .partnerPending } } := by
  obtain ⟨t, ht⟩ := Option.isSome_iff_exists.1 ht
  simp only [cancelTag, hp, ho, and_self, if_true, Context.orphaned, ht]
  split <;> rfl

theorem cancelLoadRule_free {h : Hoist} {s : State} (hs : (s.contexts.get h).state ∈ [.tagged, .ready, .waitingZone]) :
    cancelLoadRule h.num s = accept (cancelTag h s) := by
  simp only [List.mem_cons, List.not_mem_nil, or_false] at hs
  rcases hs with e | e | e <;> simp only [cancelLoadRule, hoistOf_num, e]

theorem cancelLoadRule_inBath {h : Hoist} {s : State} (hs : (s.contexts.get h).state
    ∈ [.lowering, .entering, .immersed, .withdrawing, .draining, .weighing, .abandoned]) :
    cancelLoadRule h.num s = refuse .inBath s := by
  simp only [List.mem_cons, List.not_mem_nil, or_false] at hs
  rcases hs with e | e | e | e | e | e | e <;> simp only [cancelLoadRule, hoistOf_num, e]

/-! ## SET MAINTENANCE PERMIT (R71) -/

theorem exec_setMaintenancePermit (q : Req) (h : Hoist) (v : Nat) (s : State) :
    exec (.setMaintenancePermit q h.num v) s = .next (checked q 0xA4
      [(decide (1 < v), .outOfRange), (decide (v = 1 ∧ (s.contexts.get h).state ≠ .idle), .notAllowed)]
      [] s { s with contexts := s.contexts.set h { s.contexts.get h with permit := v == 1 } }) := by
  refine manage_answerOf (rule := setMaintenancePermitRule h.num v) ?_
  rw [answerOf_decide, answerOf_decide, answerOf_nil]
  unfold setMaintenancePermitRule
  rw [hoistOf_num]
  match v with
  | 0 => rfl
  | 1 =>
    by_cases hi : (s.contexts.get h).state = .idle
    · simp only [boolOf, State.begin_contexts, hi, ne_eq, not_true_eq_false, and_false, if_true, if_false]
      rfl
    · simp [boolOf, hi]
  | v + 2 => simp [boolOf]

/-- Settles O27: CANCEL LOAD by its rule in each state, and SET MAINTENANCE PERMIT by its checks. -/
theorem cancelLoadAndPermit : Obligations.CancelLoadAndPermit := by
  refine ⟨fun q h s => ⟨fun hs => ?_, fun hs => ?_, fun hs => ?_, fun hs => ⟨fun hp => ?_, fun hp ho ht => ?_⟩⟩,
    exec_setMaintenancePermit, fun q n v s hn => ⟨?_, ?_⟩⟩
  · exact manage_answers (rule := cancelLoadRule h.num) (by simp [cancelLoadRule, hs, accept])
  · exact manage_refused q 0xA3 (cancelLoadRule h.num) _ s (by simp [cancelLoadRule, hs])
  · exact manage_refused q 0xA3 (cancelLoadRule h.num) _ s (cancelLoadRule_inBath hs)
  · refine manage_answers (rule := cancelLoadRule h.num) ?_
    rw [cancelLoadRule_free (s := s.begin) hs, cancelTag_alone (s := s.begin) hp]
    rfl
  · refine manage_answers (rule := cancelLoadRule h.num) ?_
    rw [cancelLoadRule_free (s := s.begin) hs, cancelTag_paired (s := s.begin) hp ho ht]
    rfl
  · exact manage_refused q 0xA3 (cancelLoadRule n) _ s (by simp only [cancelLoadRule, hoistOf_none n hn])
  · refine manage_refused q 0xA4 (setMaintenancePermitRule n v) _ s ?_
    simp only [setMaintenancePermitRule, hoistOf_none n hn]

end Sys2Proof.Machine
end

section
/-! Every step keeps every tag naming present tables, its zones in service, and the poll mode right (R66, R75, R104, R120,
R121, R135): by what the step's one event is. -/

namespace Sys2Proof.Machine

/-! ## The tags in order -/

/-- `t` comes after `s` with every tag naming what the tables hold, where it was so in `s`; and, with the dips of `s` in
order, with tags in the states that hold one, their zones in service, and the poll mode right, where they were so. -/
structure InOrder (s t : State) : Prop where
  named : tagsNameTables s = true → tagsNameTables t = true
  zones : dipsOk s = true → tagZonesOk s = true → tagZonesOk t = true
  mode : dipsOk s = true → pollModeOk s = true → pollModeOk t = true

theorem TagsKept.named_all {s t : State} (h : TagsKept s t) (hs : tagsNameTables s = true) : tagsNameTables t = true := by
  rw [tagsNameTables_iff] at hs ⊢
  exact fun x y hy => h.named x y hy (hs x y (h.tags x y hy))

theorem Ends.inOrder {s t : State} (h : Ends s t)
    (hm : dipsOk s = true → pollModeOk s = true → pollModeOk t = true) : InOrder s t := by
  refine ⟨h.toTagsKept.named_all, fun hd hz => ?_, hm⟩
  rw [tagZonesOk_iff] at hz ⊢
  exact ⟨h.matched (upright_of_dipsOk hd), fun x y hy => h.zones x y hy (hz.2 x y (h.tags x y hy))⟩

theorem Stays.inOrder {s t : State} (h : Stays s t) : InOrder s t := by
  refine Ends.inOrder ⟨⟨fun x y hy => h.tag x ▸ hy, fun x y hy => h.named x y (h.tag x ▸ hy),
    fun x y hy => h.zones x y (h.tag x ▸ hy)⟩, fun hu x => ?_⟩ fun _ hp => ?_
  · have hm := hu.matched x
    rw [tagMatchesState_iff] at hm ⊢
    rwa [h.tag, h.state]
  · exact pollModeOk_of_same hp h.mode (bathActive_of_states fun x => by rw [h.state])

theorem InOrder.refl (s : State) : InOrder s s := (Stays.refl s).inOrder

/-! ## The requests that change a context or the zone map -/

/-- What passes the checks of TAG LOAD: an IDLE context, and a tag that names present tables and zones in service. -/
theorem tagCheck_none {h : Hoist} {x : TagArgs} {s : State} (hc : tagCheck h x s = none) :
    (s.contexts.get h).state = .idle ∧ NamesTables x s ∧ tagZonesInService x s.tables.zoneMap = true := by
  have checks := List.findSome?_eq_none_iff.1 hc
  simp only [List.forall_mem_cons, id] at checks
  obtain ⟨idle, -, -, job, jig, -, profile, -, zones, -⟩ := checks
  refine ⟨by simpa using idle, ⟨?_, ?_, by simpa [← Option.isSome_iff_ne_none] using profile⟩, by simpa using zones⟩
  · unfold tagJobCheck at job
    unfold jobLive
    cases hj : findJob x.job s with
    | none => simp [hj] at job
    | some j => cases hs : j.status <;> simp [hj, hs] at job ⊢
  · unfold tagJigCheck at jig
    unfold jigServes
    cases hj : findJig x.jig s with
    | none => simp [hj] at jig
    | some j => cases hs : j.status <;> simp [hj, hs] at jig ⊢

/-- Of the other hoist's context an accepted TAG LOAD leaves the tag and the state. -/
theorem taggedContexts_get (h : Hoist) (x : TagArgs) (s : State) (y : Hoist) :
    (y = h ∧ ((taggedContexts h x s).get y).tag = some x ∧ ((taggedContexts h x s).get y).state = .tagged)
      ∨ (((taggedContexts h x s).get y).tag = (s.contexts.get y).tag
        ∧ ((taggedContexts h x s).get y).state = (s.contexts.get y).state) := by
  unfold taggedContexts
  simp only [PerHoist.get_set]
  split
  · next e =>
    subst e
    right
    split <;> exact ⟨rfl, rfl⟩
  · next hne =>
    split
    · next e => exact .inl ⟨e, rfl, rfl⟩
    · exact .inr ⟨rfl, rfl⟩

/-- TAG LOAD tags with what its checks have found (R69, R78). -/
theorem inOrder_takeTag {h : Hoist} {x : TagArgs} {s : State} (hc : tagCheck h x s = none) :
    InOrder s { s with contexts := taggedContexts h x s } := by
  obtain ⟨idle, named, zones⟩ := tagCheck_none hc
  refine ⟨fun hn => ?_, fun _ hz => ?_, fun _ hp => ?_⟩
  · rw [tagsNameTables_iff] at hn ⊢
    intro y t ht
    rcases taggedContexts_get h x s y with ⟨-, e, -⟩ | ⟨e, -⟩
    · obtain rfl := Option.some.inj (e.symm.trans ht)
      exact named.congr rfl rfl rfl
    · exact (hn y t (e.symm.trans ht)).congr rfl rfl rfl
  · rw [tagZonesOk_iff] at hz ⊢
    refine ⟨fun y => ?_, fun y t ht => ?_⟩
    · have hm := hz.1 y
      rw [tagMatchesState_iff] at hm ⊢
      rcases taggedContexts_get h x s y with ⟨-, e, e'⟩ | ⟨e, e'⟩
      · simp [e, e']
      · simpa only [e, e'] using hm
    · rcases taggedContexts_get h x s y with ⟨-, e, -⟩ | ⟨e, -⟩
      · obtain rfl := Option.some.inj (e.symm.trans ht)
        exact zones
      · exact hz.2 y t (e.symm.trans ht)
  · refine pollModeOk_of_same hp rfl (bathActive_of_states fun y => ?_)
    rcases taggedContexts_get h x s y with ⟨rfl, -, e⟩ | ⟨-, e⟩
    · simp only [e, idle, DipState.overKettle]
    · simp only [e]

theorem inOrder_tagLoadRule (x : TagArgs) (s : State) : InOrder s (tagLoadRule x s).state := by
  unfold tagLoadRule
  split
  · exact .refl s
  · next h _ =>
    split
    · exact (stays_permit h false s).inOrder
    · next hc =>
      simp only [accept, takeTag_clearPermit]
      exact inOrder_takeTag hc

/-- CANCEL LOAD leaves its own context in IDLE, and a pair's other context as it was or PARTNER PENDING (R70, R114). -/
theorem cancelTag_get (h : Hoist) (s : State) (y : Hoist) : (cancelTag h s).contexts.get y
    = if y = h then (s.contexts.get y).toIdle
      else if (s.contexts.get h).pair = .paired ∧ (s.contexts.get h.other).pair = .paired
        then (s.contexts.get y).orphaned else s.contexts.get y := by
  unfold cancelTag
  simp only
  have waits (w : Option WaitingClaim) :
      (if (s.contexts.get h).state = .waitingZone then { s with waiting := w } else s).contexts = s.contexts := by
    split <;> rfl
  split
  · simp only [State.setContext_contexts, PerHoist.get_set, waits]
    by_cases hy : y = h
    · subst hy
      simp [(Hoist.other_ne y).symm]
    · have ho : y = h.other := by cases y <;> cases h <;> simp_all [Hoist.other]
      simp [ho]
  · simp only [State.setContext_contexts, PerHoist.get_set, waits]
    split
    · next e => rw [e]
    · rfl

theorem Context.orphaned_tag (c : Context) : c.orphaned.tag = c.tag := by
  unfold Context.orphaned
  split
  · next t ht => exact ht.symm
  · rfl

theorem Context.orphaned_matched {c : Context} (hm : c.tagMatchesState = true) :
    c.orphaned.tagMatchesState = true := by
  unfold Context.orphaned
  split
  · rfl
  · exact hm

/-- Neither context of a dip that CANCEL LOAD may end is over the kettle before or after (R70, R111). -/
theorem cancelTag_overKettle {h : Hoist} {s : State} (hd : dipsOk s = true)
    (hs : (s.contexts.get h).state.overKettle = false) (ha : (s.contexts.get h).state ≠ .abandoned) (y : Hoist) :
    ((cancelTag h s).contexts.get y).state.overKettle = (s.contexts.get y).state.overKettle := by
  have orphaned (c : Context) (hc : c.state.overKettle = false) : c.orphaned.state.overKettle = false := by
    unfold Context.orphaned
    split
    · rfl
    · exact hc
  rw [cancelTag_get]
  split
  · next e => rw [e, hs]; rfl
  · next hy =>
    split
    · next hp =>
      have linked := pairLinkOk_of_dipsOk hd h
      simp only [pairLinkOk, hp.1, Bool.and_eq_true, Bool.or_eq_true, beq_iff_eq, ha, false_or] at linked
      have other : y = h.other := by cases y <;> cases h <;> simp_all [Hoist.other]
      rw [other, orphaned _ (by rw [linked.2.1.2, hs]), linked.2.1.2, hs]
    · rfl

theorem inOrder_cancelTag {h : Hoist} {s : State} (hs : (s.contexts.get h).state ∈ [.tagged, .ready, .waitingZone]) :
    InOrder s (cancelTag h s) := by
  have tables : (cancelTag h s).tables = s.tables ∧ (cancelTag h s).bath = s.bath := by
    unfold cancelTag
    simp only
    repeat' split
    all_goals exact ⟨rfl, rfl⟩
  have kept : TagsKept s (cancelTag h s) := by
    refine .of_contexts tables.1 fun x y hy => ?_
    rw [cancelTag_get] at hy
    split at hy
    · cases hy
    · split at hy
      · rwa [Context.orphaned_tag] at hy
      · exact hy
  refine Ends.inOrder ⟨kept, fun hu x => ?_⟩ fun hd hp => ?_
  · rw [cancelTag_get]
    split
    · rfl
    · split
      · exact Context.orphaned_matched (hu.matched x)
      · exact hu.matched x
  · have short : (s.contexts.get h).state.overKettle = false ∧ (s.contexts.get h).state ≠ .abandoned := by
      simp only [List.mem_cons, List.not_mem_nil, or_false] at hs
      obtain e | e | e := hs <;> rw [e] <;> exact ⟨rfl, nofun⟩
    exact pollModeOk_of_same hp (by rw [tables.2]) (bathActive_of_states (cancelTag_overKettle hd short.1 short.2))

theorem inOrder_cancelLoadRule (n : Nat) (s : State) : InOrder s (cancelLoadRule n s).state := by
  unfold cancelLoadRule
  split
  · exact .refl s
  · next h _ =>
    cases hs : (s.contexts.get h).state with
    | tagged | ready | waitingZone => exact inOrder_cancelTag (by simp [hs])
    | idle | lowering | entering | immersed | withdrawing | draining | weighing | abandoned | jigWeigh => exact .refl s

/-- LOAD ZONE MAP replaces the map while no context holds a tag (R102). -/
theorem inOrder_loadZoneMapRule (x : ZoneMapArgs) (s : State) : InOrder s (loadZoneMapRule x s).state := by
  unfold loadZoneMapRule
  split
  · exact .refl s
  · next hb =>
    split
    · next m _ =>
      rw [not_or, not_not, not_not] at hb
      have idle : ∀ h, (s.contexts.get h).state = .idle := fun h => by cases h; exacts [hb.1, hb.2]
      refine ⟨fun hn => ?_, fun _ hz => ?_, fun _ hp => hp⟩
      · rw [tagsNameTables_iff] at hn ⊢
        exact fun h x hx => (hn h x hx).congr rfl rfl rfl
      · rw [tagZonesOk_iff] at hz ⊢
        refine ⟨hz.1, fun h y hy => ?_⟩
        have tagged : (s.contexts.get h).tag.isSome = true := by
          rw [show (s.contexts.get h).tag = some y from hy]
          rfl
        exact absurd (idle h) (((tagMatchesState_iff _).1 (hz.1 h)).1 tagged).1
    · exact .refl s

theorem inOrder_weighJigRule (n m : Nat) (s : State) : InOrder s (weighJigRule n m s).state := by
  unfold weighJigRule
  split
  · exact .refl s
  · next h _ =>
    simp only
    split
    · exact .refl s
    · next hi =>
      rw [not_not] at hi
      have weigh (j : JigWeigh) :
          InOrder s (s.setContext h { s.contexts.get h with state := .jigWeigh, jigWeigh := j }) := by
        refine Ends.inOrder ?_ fun _ hp => pollModeOk_setContext hp ?_
        · exact ends_untagged rfl (.inl hi) (.inr rfl)
        · rw [hi]
          rfl
      split
      · exact .refl s
      · split
        · exact .refl s
        · split
          · exact .refl s
          · exact weigh _

/-! ## Every event -/

/-- At start-up no context holds a tag, and the poll mode is PERIODIC (R120, R177). -/
theorem inOrder_startState (image : Option StoredImage) (cause : RestartCause) (service : Bool) (waiting : List Instr)
    (s : State) : InOrder s (startState image cause service waiting) := by
  have initial (h : Hoist) : (startState image cause service waiting).contexts.get h = .initial := by cases h <;> rfl
  refine Ends.inOrder ⟨⟨fun h x hx => ?_, fun h x hx => ?_, fun h x hx => ?_⟩, fun _ h => ?_⟩ fun _ _ => rfl
  case refine_4 => rw [initial]; rfl
  all_goals rw [initial] at hx; cases hx

theorem inOrder_ruleOf (i : Instr) (s : State) : InOrder s (ruleOf i s).state := by
  by_cases ht : ∃ q x, i = .tagLoad q x
  · obtain ⟨q, x, rfl⟩ := ht
    exact inOrder_tagLoadRule x s
  by_cases hc : ∃ q n, i = .cancelLoad q n
  · obtain ⟨q, n, rfl⟩ := hc
    exact inOrder_cancelLoadRule n s
  by_cases hj : ∃ q n m, i = .weighJig q n m
  · obtain ⟨q, n, m, rfl⟩ := hj
    exact inOrder_weighJigRule n m s
  by_cases hz : ∃ q x, i = .loadZoneMap q x
  · obtain ⟨q, x, rfl⟩ := hz
    exact inOrder_loadZoneMapRule x s
  push Not at ht hc hj hz
  exact (ruleOf_stays ht hc hj hz s).inOrder

theorem DipEvent.inOrder {s t : State} (h : DipEvent s t) : InOrder s t := by
  cases h with
  | rest => exact .refl s
  | sample h => exact (ends_contextSample h s).inOrder fun _ _ => syncPollMode_ok _
  | abort h => exact (ends_abortDip h s).inOrder fun _ => pollModeOk_abortDip
  | drain h => exact (ends_drainExpired h s).inOrder fun _ => pollModeOk_drainExpired
  | weigh h => exact (ends_weighExpired h s).inOrder fun _ => pollModeOk_weighExpired
  | jigWeigh h _ hj => exact (ends_jigWeighExpired hj).inOrder fun _ => pollModeOk_jigWeighExpired hj
  | request i => exact inOrder_ruleOf i s
  | restart => exact inOrder_startState _ _ _ _ s

theorem Aside.dipsOk {s t : State} (h : Aside s t) : dipsOk t = dipsOk s := by
  simp only [Machine.dipsOk, onBoth, ownsItsZones, waitingOk, reservedPlaces, h.contexts, h.owners, h.waiting, h.records]
  rfl

theorem InOrder.before {s t u : State} (h' : InOrder t u) (h : Aside s t) : InOrder s u := by
  have hs := h.stays.inOrder
  refine ⟨fun hn => h'.named (hs.named hn), fun hd hz => ?_, fun hd hp => ?_⟩
  · exact h'.zones (h.dipsOk.trans hd) (hs.zones hd hz)
  · exact h'.mode (h.dipsOk.trans hd) (hs.mode hd hp)

/-- What stands aside keeps all of it, whatever the dips. -/
theorem InOrder.aside {s t u : State} (h : InOrder s t) (h' : Aside t u) : InOrder s u := by
  have hu := h'.stays.inOrder
  refine ⟨fun hn => hu.named (h.named hn), fun hd hz => ?_, fun hd hp => ?_⟩
  · have zones := h.zones hd hz
    rw [tagZonesOk_iff] at zones ⊢
    rwa [h'.contexts, h'.tables]
  · exact pollModeOk_of_same (h.mode hd hp) h'.mode (bathActive_of_states fun x => by rw [h'.contexts])

theorem step_inOrder {s t : State} (h : step s = .next t) : InOrder s t := by
  obtain ⟨u, v, hu, he, hv⟩ := step_oneEvent h
  exact (he.inOrder.before hu).aside hv

/-- Settles O57: by the one event of a step. -/
theorem everyStepKeepsTheTagsInOrder : Obligations.EveryStepKeepsTheTagsInOrder :=
  ⟨fun _ _ hn h => (step_inOrder h).named hn,
    fun _ _ hd hz hp h => ⟨(step_inOrder h).zones hd hz, (step_inOrder h).mode hd hp⟩⟩

end Sys2Proof.Machine
end

section
/-! The law of the dips as propositions: what `dipsOk` and `pairsAlike` say of each context, of the zones under a load
and of the waiting claim, and which contexts of a dip stand together (R75, R105, R111, R149). -/

namespace Sys2Proof.Machine

/-! ## The law -/

/-- The states under whose loads the zones are owned: LOWERING to DRAINING, and ABANDONED (R105). -/
def DipState.ownsZones (st : DipState) : Bool := st.overKettle || st == .abandoned

/-- The owner that a hoist's context holds its zones as: the pair, or the hoist itself (R105, R113). -/
def zoneKey (h : Hoist) (c : Context) : Owner := if c.pair = .paired then .pair else .hoist h

/-- A hoist's context owns every zone of its tag's zone set (R105). -/
def HoldsZones (h : Hoist) (s : State) : Prop :=
  ∀ t, (s.contexts.get h).tag = some t → ∀ z, inSet t.firstZone t.lastZone z = true →
    s.owners.get z = zoneKey h (s.contexts.get h)

/-- A hoist's context waits with a claim for the zone set of its tag (R106). -/
def Waits (w : WaitingClaim) (h : Hoist) (c : Context) : Prop :=
  c.state = .waitingZone ∧ zoneKey h c = w.claimant
    ∧ ∃ t, c.tag = some t ∧ t.firstZone = w.first ∧ t.lastZone = w.last

/-- What `dipsOk` says of the contexts, the zones and the waiting claim. -/
structure DipLaw (s : State) : Prop where
  matched : ∀ h, (s.contexts.get h).tagMatchesState = true
  placed : ∀ h, (s.contexts.get h).reservedMatchesState = true
  linked : ∀ h, pairLinkOk (s.contexts.get h) (s.contexts.get h.other) = true
  owned : ∀ h, (s.contexts.get h).state.ownsZones = true → HoldsZones h s
  waits : ∀ w, s.waiting = some w → w.claimant ≠ .none ∧ ∀ h ∈ w.claimant.hoists, Waits w h (s.contexts.get h)

/-- The places of the record queue that are taken: records held and places reserved (R149). -/
def placesTaken (s : State) : Nat := s.records.length + reservedPlaces s

theorem zones_all_iff (p : Zone → Bool) : Zone.all.all p = true ↔ ∀ z, p z = true := by
  rw [List.all_eq_true]
  exact ⟨fun h z => h z (by cases z <;> decide), fun h z _ => h z⟩

theorem ownsItsZones_iff (h : Hoist) (s : State) :
    ownsItsZones h s = true ↔ ((s.contexts.get h).state.ownsZones = true → HoldsZones h s) := by
  have zone (t : TagArgs) (z : Zone) (k : Owner) : (!inSet t.firstZone t.lastZone z || s.owners.get z == k) = true
      ↔ (inSet t.firstZone t.lastZone z = true → s.owners.get z = k) := by
    cases inSet t.firstZone t.lastZone z <;> simp
  have held (t : TagArgs) (b : Bool) : (!b || Zone.all.all (fun z => !inSet t.firstZone t.lastZone z
      || s.owners.get z == zoneKey h (s.contexts.get h))) = true
      ↔ (b = true → ∀ z, inSet t.firstZone t.lastZone z = true → s.owners.get z = zoneKey h (s.contexts.get h)) := by
    rw [Bool.or_eq_true, zones_all_iff, Bool.not_eq_true', ← Bool.not_eq_true, ← imp_iff_not_or]
    simp only [zone]
  unfold HoldsZones
  cases ht : (s.contexts.get h).tag with
  | none => simp [ownsItsZones, ht]
  | some t =>
    simp only [ownsItsZones, ht, Option.some.injEq, forall_eq']
    exact held t _

theorem waitsFor_pair_iff (w : WaitingClaim) (h : Hoist) (c : Context) (hw : w.claimant = .pair) :
    waitsFor w true c = true ↔ Waits w h c := by
  simp only [waitsFor, Waits, zoneKey, hw, Bool.and_eq_true, beq_iff_eq, Option.any_eq_true, and_assoc]
  cases c.pair <;> simp

theorem waitsFor_hoist_iff (w : WaitingClaim) (h : Hoist) (c : Context) (hw : w.claimant = .hoist h) :
    waitsFor w false c = true ↔ Waits w h c := by
  simp only [waitsFor, Waits, zoneKey, hw, Bool.and_eq_true, beq_iff_eq, Option.any_eq_true, and_assoc]
  cases c.pair <;> simp

theorem waitingOk_iff (s : State) : waitingOk s = true ↔ ∀ w, s.waiting = some w →
    w.claimant ≠ .none ∧ ∀ h ∈ w.claimant.hoists, Waits w h (s.contexts.get h) := by
  unfold waitingOk
  cases s.waiting with
  | none => simp
  | some w =>
    simp only [Option.some.injEq, forall_eq']
    cases hw : w.claimant with
    | none => simp
    | hoist h => simp [Owner.hoists, waitsFor_hoist_iff w h _ hw]
    | pair => simp [Owner.hoists, waitsFor_pair_iff w .h1 s.contexts.h1 hw, waitsFor_pair_iff w .h2 s.contexts.h2 hw]

theorem dipsOk_iff (s : State) : dipsOk s = true ↔ DipLaw s ∧ placesTaken s ≤ 48 := by
  simp only [dipsOk, onBoth, Bool.and_eq_true, ownsItsZones_iff, waitingOk_iff, decide_eq_true_eq]
  constructor
  · rintro ⟨⟨⟨⟨⟨⟨m1, p1⟩, l1⟩, o1⟩, ⟨⟨m2, p2⟩, l2⟩, o2⟩, w⟩, n⟩
    refine ⟨⟨?_, ?_, ?_, ?_, w⟩, n⟩ <;> intro h <;> cases h <;> assumption
  · rintro ⟨⟨m, p, l, o, w⟩, n⟩
    exact ⟨⟨⟨⟨⟨⟨m .h1, p .h1⟩, l .h1⟩, o .h1⟩, ⟨⟨m .h2, p .h2⟩, l .h2⟩, o .h2⟩, w⟩, n⟩

/-! ## Figures held alike -/

/-- The figures of a dip: a context without its tag, its permit and its jig weigh (R111). -/
def Context.figures (c : Context) : Context := { c with tag := none, permit := false, jigWeigh := .initial }

/-- The figures of a PARTNER PENDING context, given its flag OVERLOAD_SEEN (R110). -/
def pendingFigures (overload : Bool) : Context :=
  { Context.initial with
    state := .tagged, pair := .partnerPending, flags := { DipFlags.clear with overloadSeen := overload } }

/-- What `pairsAlike` says. -/
structure AlikeLaw (s : State) : Prop where
  pair : joint s = true → s.contexts.h1.figures = s.contexts.h2.figures
  pending : ∀ h, (s.contexts.get h).pair = .partnerPending →
    (s.contexts.get h).figures = pendingFigures (s.contexts.get h).flags.overloadSeen

theorem figures_eq_iff (c o : Context) :
    c.figures = o.figures ↔ o = { c with tag := o.tag, permit := o.permit, jigWeigh := o.jigWeigh } := by
  cases c; cases o
  simp only [Context.figures, Context.mk.injEq]
  grind

theorem pendingOk_iff (c : Context) : c.pendingOk = true
    ↔ (c.pair = .partnerPending → c.figures = pendingFigures c.flags.overloadSeen) := by
  have whole : c.figures = pendingFigures c.flags.overloadSeen ↔ c = { c.ended with
      state := .tagged, tag := c.tag, pair := .partnerPending
      flags := { DipFlags.clear with overloadSeen := c.flags.overloadSeen } } := by
    rw [show pendingFigures c.flags.overloadSeen = (pendingFigures c.flags.overloadSeen).figures from rfl, eq_comm,
      figures_eq_iff]
    rfl
  rw [Context.pendingOk, Bool.or_eq_true, bne_iff_ne, beq_iff_eq, ← whole, ← imp_iff_not_or]

theorem pairsAlike_iff (s : State) : pairsAlike s = true ↔ AlikeLaw s := by
  have pair : (!joint s || s.contexts.h1.alike s.contexts.h2) = true
      ↔ (joint s = true → s.contexts.h1.figures = s.contexts.h2.figures) := by
    rw [figures_eq_iff, Context.alike]
    cases joint s <;> simp
  rw [pairsAlike, Bool.and_eq_true, Bool.and_eq_true, pair, pendingOk_iff, pendingOk_iff]
  exact ⟨fun ⟨⟨p, h1⟩, h2⟩ => ⟨p, fun h => by cases h <;> assumption⟩,
    fun ⟨p, h⟩ => ⟨⟨p, h .h1⟩, h .h2⟩⟩

/-! ## The contexts of one dip -/

theorem pairLinkOk_iff (c o : Context) : pairLinkOk c o = true ↔ (c.pair = .partnerPending → c.state = .tagged)
    ∧ (c.pair = .paired → c.tag.isSome = true
      ∧ (c.state ≠ .abandoned → o.pair = .paired ∧ o.state = c.state ∧ sameLoadTags c.tag o.tag = true)) := by
  unfold pairLinkOk
  cases c.pair with
  | none => simp
  | partnerPending => simp
  | paired =>
    by_cases ha : c.state = .abandoned <;> simp [ha, and_assoc]

theorem sharesDip_iff (h x : Hoist) (s : State) : sharesDip h x s = true ↔ x = h ∨ joint s = true := by
  simp [sharesDip]

theorem Hoist.eq_other_of_ne {x h : Hoist} (hx : x ≠ h) : x = h.other := by
  cases x <;> cases h <;> simp_all [Hoist.other]

theorem sameLoadTags_comm (a b : Option TagArgs) : sameLoadTags a b = sameLoadTags b a := by
  cases a <;> cases b <;> simp only [sameLoadTags, sameLoad]
  simp only [Bool.beq_comm]

namespace DipLaw

variable {s : State} {h x : Hoist}

theorem pending_tagged (hl : DipLaw s) (hp : (s.contexts.get h).pair = .partnerPending) :
    (s.contexts.get h).state = .tagged := ((pairLinkOk_iff _ _).1 (hl.linked h)).1 hp

/-- A paired context that is not ABANDONED is driven as one with its partner, in the same state with the same load. -/
theorem partner (hl : DipLaw s) (hp : (s.contexts.get h).pair = .paired) (ha : (s.contexts.get h).state ≠ .abandoned) :
    joint s = true ∧ (s.contexts.get h.other).state = (s.contexts.get h).state
      ∧ sameLoadTags (s.contexts.get h).tag (s.contexts.get h.other).tag = true := by
  obtain ⟨po, so, lo⟩ := (((pairLinkOk_iff _ _).1 (hl.linked h)).2 hp).2 ha
  refine ⟨(joint_iff s).2 fun x => ?_, so, lo⟩
  by_cases e : x = h
  · exact e ▸ ⟨hp, ha⟩
  · rw [Hoist.eq_other_of_ne e]
    exact ⟨po, so ▸ ha⟩

theorem sameState (hl : DipLaw s) (hx : sharesDip h x s = true) :
    (s.contexts.get x).state = (s.contexts.get h).state := by
  by_cases e : x = h
  · rw [e]
  · have hj := ((sharesDip_iff h x s).1 hx).resolve_left e
    rw [Hoist.eq_other_of_ne e]
    exact (hl.partner ((joint_iff s).1 hj h).1 ((joint_iff s).1 hj h).2).2.1

/-- The contexts of a dip have tags with one zone set (R110, R111). -/
theorem sameZones (hl : DipLaw s) (hx : sharesDip h x s = true) {t u : TagArgs}
    (ht : (s.contexts.get h).tag = some t) (hu : (s.contexts.get x).tag = some u) :
    u.firstZone = t.firstZone ∧ u.lastZone = t.lastZone := by
  by_cases e : x = h
  · subst e
    cases ht.symm.trans hu
    exact ⟨rfl, rfl⟩
  · have hj := ((sharesDip_iff h x s).1 hx).resolve_left e
    have same := (hl.partner ((joint_iff s).1 hj h).1 ((joint_iff s).1 hj h).2).2.2
    rw [← Hoist.eq_other_of_ne e, ht, hu] at same
    simp only [sameLoadTags, sameLoad, Bool.and_eq_true, beq_iff_eq] at same
    exact ⟨same.1.2.symm, same.2.symm⟩

/-- The contexts of a dip hold their zones as the dip's claimant. -/
theorem zoneKey_eq (hl : DipLaw s) (ha : (s.contexts.get h).state ≠ .abandoned) (hx : sharesDip h x s = true) :
    zoneKey x (s.contexts.get x) = claimantOf h s := by
  unfold zoneKey claimantOf
  cases hj : joint s with
  | true => rw [if_pos ((joint_iff s).1 hj x).1]; rfl
  | false =>
    obtain rfl := ((sharesDip_iff h x s).1 hx).resolve_right (by simp [hj])
    refine if_neg fun hp => ?_
    rw [(hl.partner hp ha).1] at hj
    cases hj

/-- Of hoists not driven as one pair, a paired context is ABANDONED. -/
theorem alone_abandoned (hl : DipLaw s) (hj : joint s = false) (hp : (s.contexts.get h).pair = .paired) :
    (s.contexts.get h).state = .abandoned := by
  by_contra hn
  rw [(hl.partner hp hn).1] at hj
  cases hj

theorem tagged (hl : DipLaw s) (hi : (s.contexts.get h).state ≠ .idle) (hj : (s.contexts.get h).state ≠ .jigWeigh) :
    (s.contexts.get h).tag.isSome = true := ((tagMatchesState_iff _).1 (hl.matched h)).2 ⟨hi, hj⟩

end DipLaw

end Sys2Proof.Machine
end

section
/-! What keeps the law of the dips: changes aside from the dips, and a dip taken from one state to another in all its
contexts. -/

namespace Sys2Proof.Machine

/-! ## Kept -/

/-- `t` comes after `s` with the law of the dips kept, and with it the figures alike. -/
structure KeepsLaw (s t : State) : Prop where
  law : DipLaw s → DipLaw t
  alike : DipLaw s → AlikeLaw s → AlikeLaw t

/-- So too the bound of the places taken: no more than 48, or than before. -/
structure KeepsDips (s t : State) : Prop extends KeepsLaw s t where
  places : DipLaw s → placesTaken t ≤ max 48 (placesTaken s)

theorem KeepsLaw.trans {s t u : State} (h : KeepsLaw s t) (h' : KeepsLaw t u) : KeepsLaw s u :=
  ⟨fun hl => h'.law (h.law hl), fun hl ha => h'.alike (h.law hl) (h.alike hl ha)⟩

theorem KeepsDips.trans {s t u : State} (h : KeepsDips s t) (h' : KeepsDips t u) : KeepsDips s u :=
  ⟨h.toKeepsLaw.trans h'.toKeepsLaw, fun hl => by
    have first := h.places hl
    have second := h'.places (h.law hl)
    omega⟩

/-- The later change named first, so that its own form says what came before it. -/
theorem KeepsDips.after {s t u : State} (h' : KeepsDips t u) (h : KeepsDips s t) : KeepsDips s u := h.trans h'

/-- What is shown of states in which the law holds. -/
theorem KeepsLaw.of_law {s t : State} (h : DipLaw s → KeepsLaw s t) : KeepsLaw s t :=
  ⟨fun hl => (h hl).law hl, fun hl => (h hl).alike hl⟩

theorem KeepsDips.of_law {s t : State} (h : DipLaw s → KeepsDips s t) : KeepsDips s t :=
  ⟨.of_law fun hl => (h hl).toKeepsLaw, fun hl => (h hl).places hl⟩

/-! ## Places (R149) -/

/-- Places reserved depend on the reservations and the pair links. -/
theorem reservedPlaces_congr {s t : State} (hr : ∀ h, (t.contexts.get h).reserved = (s.contexts.get h).reserved)
    (hp : ∀ h, (t.contexts.get h).pair = (s.contexts.get h).pair) : reservedPlaces t = reservedPlaces s := by
  have r1 := hr .h1
  have r2 := hr .h2
  have p1 := hp .h1
  have p2 := hp .h2
  simp only [PerHoist.get_h1, PerHoist.get_h2] at r1 r2 p1 p2
  simp only [reservedPlaces, r1, r2, p1, p2]

/-- Each reservation counts, and those of a pair together as one. -/
theorem reservedPlaces_eq_bits (h : Hoist) (s : State) : reservedPlaces s
    = bit (s.contexts.get h).reserved + bit (s.contexts.get h.other).reserved
      - bit ((s.contexts.get h).reserved && (s.contexts.get h.other).reserved
        && (s.contexts.get h).pair == .paired && (s.contexts.get h.other).pair == .paired) := by
  unfold reservedPlaces
  cases h <;> cases r1 : s.contexts.h1.reserved <;> cases r2 : s.contexts.h2.reserved
  all_goals simp only [PerHoist.get_h1, PerHoist.get_h2, Hoist.other, r1, r2, bit]
  all_goals cases s.contexts.h1.pair <;> cases s.contexts.h2.pair <;> rfl

/-- With no place for hoist `h`, the other hoist's alone counts. -/
theorem reservedPlaces_of_not_reserved {h : Hoist} {s : State} (hr : (s.contexts.get h).reserved = false) :
    reservedPlaces s = bit (s.contexts.get h.other).reserved := by
  simp [reservedPlaces_eq_bits h, hr, bit]

theorem reservedMatchesState_iff (c : Context) :
    c.reservedMatchesState = true ↔ c.reserved = (c.state.inDip && c.state != .tagged) := by
  rw [Context.reservedMatchesState, beq_iff_eq]

/-- A context with a place reserved is in a dip. -/
theorem DipLaw.inDip_of_reserved {h : Hoist} {s : State} (hl : DipLaw s) (hr : (s.contexts.get h).reserved = true) :
    (s.contexts.get h).state.inDip = true := by
  have placed := (reservedMatchesState_iff _).1 (hl.placed h)
  rw [hr, eq_comm, Bool.and_eq_true] at placed
  exact placed.1

theorem DipState.ne_abandoned_of_inDip {st : DipState} (h : st.inDip = true) : st ≠ .abandoned := by
  rintro rfl
  cases h

/-- A reserved place of hoist `h`'s dip counts once, beside that of another dip (R149). -/
theorem DipLaw.reservedPlaces_eq {h : Hoist} {s : State} (hl : DipLaw s) (hr : (s.contexts.get h).reserved = true) :
    reservedPlaces s = 1 + bit (!joint s && (s.contexts.get h.other).reserved) := by
  have dip := hl.inDip_of_reserved hr
  have live := DipState.ne_abandoned_of_inDip dip
  rw [reservedPlaces_eq_bits h, hr]
  cases hj : joint s with
  | true =>
    have pair := fun x => ((joint_iff s).1 hj x).1
    have other : (s.contexts.get h.other).reserved = true := by
      rw [(reservedMatchesState_iff _).1 (hl.placed h.other), hl.sameState ((sharesDip_iff ..).2 (.inr hj)),
        ← (reservedMatchesState_iff _).1 (hl.placed h), hr]
    simp [pair, other, bit]
  | false =>
    cases ho : (s.contexts.get h.other).reserved with
    | false => simp [bit]
    | true =>
      have alone : (s.contexts.get h).pair ≠ .paired := fun hp => live (hl.alone_abandoned hj hp)
      simp [alone, bit]

/-! ## Changes aside from the dips -/

/-- `t` has the figures and the tag of each context, the zones and the waiting claim of `s`. -/
structure SameDips (s t : State) : Prop where
  figures : ∀ h, (t.contexts.get h).figures = (s.contexts.get h).figures
  tag : ∀ h, (t.contexts.get h).tag = (s.contexts.get h).tag
  owners : t.owners = s.owners
  waiting : t.waiting = s.waiting

theorem SameDips.of_same {s t : State} (hc : t.contexts = s.contexts) (ho : t.owners = s.owners)
    (hw : t.waiting = s.waiting) : SameDips s t := ⟨fun h => by rw [hc], fun h => by rw [hc], ho, hw⟩

theorem SameDips.refl (s : State) : SameDips s s := .of_same rfl rfl rfl

section SameFigures

variable {c o : Context} (h : c.figures = o.figures)

include h

theorem state_of_figures : c.state = o.state := (congrArg Context.state h :)

theorem pair_of_figures : c.pair = o.pair := (congrArg Context.pair h :)

theorem reserved_of_figures : c.reserved = o.reserved := (congrArg Context.reserved h :)

theorem flags_of_figures : c.flags = o.flags := (congrArg Context.flags h :)

end SameFigures

namespace SameDips

variable {s t : State}

theorem state (hs : SameDips s t) (h : Hoist) : (t.contexts.get h).state = (s.contexts.get h).state :=
  state_of_figures (hs.figures h)

theorem pair (hs : SameDips s t) (h : Hoist) : (t.contexts.get h).pair = (s.contexts.get h).pair :=
  pair_of_figures (hs.figures h)

theorem joint (hs : SameDips s t) : joint t = joint s := by
  rw [Bool.eq_iff_iff, joint_iff, joint_iff]
  simp only [hs.state, hs.pair]

theorem keepsLaw (hs : SameDips s t) : KeepsLaw s t := by
  have key (h : Hoist) : zoneKey h (t.contexts.get h) = zoneKey h (s.contexts.get h) := by rw [zoneKey, hs.pair]; rfl
  refine ⟨fun hl => ⟨fun h => ?_, fun h => ?_, fun h => ?_, fun h => ?_, fun w hw => ?_⟩,
    fun _ ha => ⟨fun hj => ?_, fun h => ?_⟩⟩
  · have hm := hl.matched h
    rw [tagMatchesState_iff] at hm ⊢
    rwa [hs.tag, hs.state]
  · have hp := hl.placed h
    rw [reservedMatchesState_iff] at hp ⊢
    rwa [reserved_of_figures (hs.figures h), hs.state]
  · have hk := hl.linked h
    rw [pairLinkOk_iff] at hk ⊢
    simpa only [hs.pair, hs.state, hs.tag] using hk
  · have ho := hl.owned h
    simpa only [HoldsZones, hs.state, hs.tag, key, hs.owners] using ho
  · have hw' := hl.waits w (hs.waiting ▸ hw)
    simpa only [Waits, hs.state, hs.tag, key] using hw'
  · exact (hs.figures .h1).trans ((ha.pair (hs.joint ▸ hj)).trans (hs.figures .h2).symm)
  · rw [hs.pair, hs.figures, flags_of_figures (hs.figures h)]
    exact ha.pending h

theorem keeps (hs : SameDips s t) (hr : t.records.length ≤ s.records.length) : KeepsDips s t := by
  refine ⟨hs.keepsLaw, fun _ => ?_⟩
  have reserved := reservedPlaces_congr (fun h => reserved_of_figures (hs.figures h)) hs.pair
  unfold placesTaken
  omega

end SameDips

theorem KeepsDips.refl (s : State) : KeepsDips s s := (SameDips.refl s).keeps (Nat.le_refl _)

/-! ## A dip taken from one state to another -/

/-- A change of a context that leaves its tag and its pair link and changes the figures by the figures alone (R111). -/
structure DipChange (f : Context → Context) : Prop where
  tag : ∀ c, (f c).tag = c.tag
  pair : ∀ c, (f c).pair = c.pair
  figures : ∀ c, (f c).figures = (f c.figures).figures

/-- The change `f` takes hoist `h`'s dip from a state of the dip to the state `st`. -/
structure Moves (h : Hoist) (f : Context → Context) (st : DipState) (s : State) : Prop extends DipChange f where
  start : (s.contexts.get h).state.inDip = true
  stop : st.inDip = true ∨ st = .abandoned
  state : ∀ c, c.state = (s.contexts.get h).state → (f c).state = st
  placed : ∀ c, c.state = (s.contexts.get h).state → c.reservedMatchesState = true → (f c).reservedMatchesState = true
  pending : (s.contexts.get h).state = .tagged → (s.contexts.get h).pair = .partnerPending →
    st = .tagged ∧ ∀ c, c.figures = pendingFigures c.flags.overloadSeen →
      (f c).figures = pendingFigures (f c).flags.overloadSeen
  zones : st.ownsZones = true → (s.contexts.get h).state.ownsZones = true ∨ ∀ x, sharesDip h x s = true → HoldsZones x s
  waits : (s.contexts.get h).state = .waitingZone → st = .waitingZone ∨ s.waiting = none

theorem sharesDip_other_false {h x : Hoist} {s : State} (hx : sharesDip h x s = false) :
    x = h.other ∧ joint s = false := by
  rw [← Bool.not_eq_true, sharesDip_iff, not_or] at hx
  exact ⟨Hoist.eq_other_of_ne hx.1, by simpa using hx.2⟩

theorem changeDip_get_shared {h x : Hoist} {f : Context → Context} {s : State} (hx : sharesDip h x s = true) :
    (changeDip h f s).contexts.get x = f (s.contexts.get x) := by rw [changeDip_get, if_pos hx]

theorem changeDip_get_else {h x : Hoist} {f : Context → Context} {s : State} (hx : sharesDip h x s = false) :
    (changeDip h f s).contexts.get x = s.contexts.get x := by rw [changeDip_get, if_neg (by simp [hx])]

theorem DipChange.get_tag {f : Context → Context} (hf : DipChange f) (h x : Hoist) (s : State) :
    ((changeDip h f s).contexts.get x).tag = (s.contexts.get x).tag := by
  rw [changeDip_get]
  split
  · exact hf.tag _
  · rfl

theorem DipChange.get_pair {f : Context → Context} (hf : DipChange f) (h x : Hoist) (s : State) :
    ((changeDip h f s).contexts.get x).pair = (s.contexts.get x).pair := by
  rw [changeDip_get]
  split
  · exact hf.pair _
  · rfl

theorem DipChange.get_zoneKey {f : Context → Context} (hf : DipChange f) (h x : Hoist) (s : State) :
    zoneKey x ((changeDip h f s).contexts.get x) = zoneKey x (s.contexts.get x) := by
  rw [zoneKey, hf.get_pair]
  rfl

theorem DipChange.holdsZones_iff {f : Context → Context} (hf : DipChange f) (h x : Hoist) (s : State) :
    HoldsZones x (changeDip h f s) ↔ HoldsZones x s := by
  unfold HoldsZones
  rw [hf.get_tag, hf.get_zoneKey]
  rfl

namespace Moves

variable {h : Hoist} {f : Context → Context} {st : DipState} {s : State}

theorem start_live (hm : Moves h f st s) : (s.contexts.get h).state ≠ .abandoned :=
  DipState.ne_abandoned_of_inDip hm.start

theorem joint_before (hm : Moves h f st s) (hj : joint (changeDip h f s) = true) : joint s = true := by
  by_contra hn
  rw [Bool.not_eq_true] at hn
  refine absurd ((joint_iff s).2 fun x => ?_) (by simp [hn])
  have jx := (joint_iff _).1 hj x
  rw [hm.get_pair] at jx
  cases hx : sharesDip h x s with
  | true =>
    obtain rfl := ((sharesDip_iff h x s).1 hx).resolve_right (by simp [hn])
    exact ⟨jx.1, hm.start_live⟩
  | false => exact changeDip_get_else (f := f) hx ▸ jx

theorem state_shared (hm : Moves h f st s) (hl : DipLaw s) {x : Hoist} (hx : sharesDip h x s = true) :
    ((changeDip h f s).contexts.get x).state = st := by
  rw [changeDip_get_shared hx]
  exact hm.state _ (hl.sameState hx)

theorem pending_start {x : Hoist} (hx : sharesDip h x s = true)
    (hp : (s.contexts.get x).pair = .partnerPending) : x = h :=
  ((sharesDip_iff h x s).1 hx).resolve_right fun hj => by
    rw [((joint_iff s).1 hj x).1] at hp
    cases hp

theorem law (hm : Moves h f st s) (hl : DipLaw s) : DipLaw (changeDip h f s) := by
  have alive : st ≠ .idle ∧ st ≠ .jigWeigh := by
    rcases hm.stop with e | e
    · rw [inDip_iff] at e
      exact ⟨fun h => e (by simp [h]), fun h => e (by simp [h])⟩
    · rw [e]
      exact ⟨nofun, nofun⟩
  have tagged : ∀ {x}, sharesDip h x s = true → (s.contexts.get x).tag.isSome = true := by
    intro x hx
    have start := hm.start
    rw [inDip_iff, ← hl.sameState hx] at start
    exact hl.tagged (fun e => start (by simp [e])) (fun e => start (by simp [e]))
  refine ⟨fun x => ?_, fun x => ?_, fun x => ?_, fun x ho => ?_, fun w hw => ⟨(hl.waits w hw).1, fun x hx => ?_⟩⟩
  case refine_3 =>
    rw [pairLinkOk_iff, hm.get_pair, hm.get_pair, hm.get_tag, hm.get_tag]
    have before := (pairLinkOk_iff _ _).1 (hl.linked x)
    cases hx : sharesDip h x s with
    | false =>
      rw [changeDip_get_else hx]
      obtain ⟨rfl, hj⟩ := sharesDip_other_false hx
      exact ⟨before.1, fun hp => ⟨(before.2 hp).1, fun ha => absurd (hl.alone_abandoned hj hp) ha⟩⟩
    | true =>
      rw [hm.state_shared hl hx]
      refine ⟨fun hp => ?_, fun hp => ⟨(before.2 hp).1, fun _ => ?_⟩⟩
      · obtain rfl := pending_start hx hp
        exact (hm.pending (hl.pending_tagged hp) hp).1
      · have live : (s.contexts.get x).state ≠ .abandoned := hl.sameState hx ▸ hm.start_live
        obtain ⟨hj, -, load⟩ := hl.partner hp live
        exact ⟨((joint_iff s).1 hj _).1, hm.state_shared hl ((sharesDip_iff ..).2 (.inr hj)), load⟩
  all_goals cases hx' : sharesDip h x s
  case refine_1.false => rw [changeDip_get_else hx']; exact hl.matched x
  case refine_1.true =>
    rw [tagMatchesState_iff, hm.get_tag, hm.state_shared hl hx']
    exact iff_of_true (tagged hx') alive
  case refine_2.false => rw [changeDip_get_else hx']; exact hl.placed x
  case refine_2.true =>
    rw [changeDip_get_shared hx']
    exact hm.placed _ (hl.sameState hx') (hl.placed x)
  case refine_4.false =>
    rw [changeDip_get_else hx'] at ho
    exact (hm.holdsZones_iff ..).2 (hl.owned x ho)
  case refine_4.true =>
    rw [hm.state_shared hl hx'] at ho
    refine (hm.holdsZones_iff ..).2 ((hm.zones ho).elim (fun hz => hl.owned x ?_) fun hz => hz x hx')
    rwa [hl.sameState hx']
  case refine_5.false => rw [changeDip_get_else hx']; exact (hl.waits w hw).2 x hx
  case refine_5.true =>
    have before := (hl.waits w hw).2 x hx
    refine ⟨?_, (hm.get_zoneKey ..).trans before.2.1, (hm.get_tag ..).symm ▸ before.2.2⟩
    rw [hm.state_shared hl hx']
    refine (hm.waits ?_).resolve_right fun e => nomatch e.symm.trans hw
    rw [← hl.sameState hx', before.1]

theorem keepsLaw (hm : Moves h f st s) : KeepsLaw s (changeDip h f s) := by
  refine ⟨hm.law, fun hl ha => ⟨fun hj => ?_, fun x hp => ?_⟩⟩
  · have together := hm.joint_before hj
    have shared (x : Hoist) : sharesDip h x s = true := (sharesDip_iff ..).2 (.inr together)
    have h1 := changeDip_get_shared (f := f) (shared .h1)
    have h2 := changeDip_get_shared (f := f) (shared .h2)
    simp only [PerHoist.get_h1, PerHoist.get_h2] at h1 h2
    rw [h1, h2, hm.figures, ha.pair together, ← hm.figures]
  · rw [hm.get_pair] at hp
    cases hx : sharesDip h x s with
    | false => rw [changeDip_get_else hx]; exact ha.pending x hp
    | true =>
      rw [changeDip_get_shared hx]
      obtain rfl := pending_start hx hp
      exact (hm.pending (hl.pending_tagged hp) hp).2 _ (ha.pending x hp)

/-- No place is taken or given up by a change that leaves the reservations. -/
theorem keeps (hm : Moves h f st s) (hr : ∀ c, (f c).reserved = c.reserved) : KeepsDips s (changeDip h f s) := by
  refine ⟨hm.keepsLaw, fun _ => ?_⟩
  have reserved : reservedPlaces (changeDip h f s) = reservedPlaces s := by
    refine reservedPlaces_congr (fun x => ?_) fun x => hm.get_pair ..
    rw [changeDip_get]
    split
    · exact hr _
    · rfl
  have records : (changeDip h f s).records = s.records := rfl
  rw [placesTaken, reserved, records]
  exact Nat.le_max_right _ _

end Moves

/-- A change of figures that leaves the state and the place. -/
theorem DipChange.rests {f : Context → Context} (hf : DipChange f) {h : Hoist} {s : State}
    (hd : (s.contexts.get h).state.inDip = true) (hs : ∀ c, (f c).state = c.state)
    (hr : ∀ c, (f c).reserved = c.reserved)
    (hp : (s.contexts.get h).state = .tagged → (s.contexts.get h).pair = .partnerPending →
      ∀ c, c.figures = pendingFigures c.flags.overloadSeen → (f c).figures = pendingFigures (f c).flags.overloadSeen) :
    KeepsDips s (changeDip h f s) :=
  Moves.keeps (st := (s.contexts.get h).state) { hf with
    start := hd
    stop := .inl hd
    state := fun c e => (hs c).trans e
    placed := fun c _ h => by rw [reservedMatchesState_iff] at h ⊢; rwa [hs, hr]
    pending := fun ht hpp => ⟨ht, hp ht hpp⟩
    zones := .inl
    waits := .inl } hr

/-- From one state of the dip with a place reserved to another. -/
theorem DipChange.advances {f : Context → Context} (hf : DipChange f) {h : Hoist} {s : State} (st : DipState)
    (hd : (s.contexts.get h).state.inDip = true) (ht : (s.contexts.get h).state ≠ .tagged) (hd' : st.inDip = true)
    (ht' : st ≠ .tagged) (hs : ∀ c, (f c).state = st) (hr : ∀ c, (f c).reserved = c.reserved)
    (hz : st.ownsZones = true →
      (s.contexts.get h).state.ownsZones = true ∨ ∀ x, sharesDip h x s = true → HoldsZones x s)
    (hw : (s.contexts.get h).state = .waitingZone → st = .waitingZone ∨ s.waiting = none) :
    KeepsDips s (changeDip h f s) :=
  Moves.keeps (st := st) { hf with
    start := hd
    stop := .inl hd'
    state := fun c _ => hs c
    placed := fun c e h => by
      rw [reservedMatchesState_iff] at h ⊢
      rw [hr, h, e, hs, hd, hd', bne_iff_ne.2 ht, bne_iff_ne.2 ht']
    pending := fun e => absurd e ht
    zones := hz
    waits := hw } hr

end Sys2Proof.Machine
end

section
/-! The zone arbiter keeps the law of the dips: claims granted or made to wait, and zones released (R105 to R107). -/

namespace Sys2Proof.Machine

/-! ## Owners and the waiting claim -/

theorem inSet_grantable_iff (o : Owner) (first last : Nat) (owners : PerZone Owner) :
    grantable o first last owners = true ↔ ∀ z, inSet first last z = true → owners.get z = .none ∨ owners.get z = o := by
  rw [grantable, zones_all_iff]
  refine forall_congr' fun z => ?_
  cases inSet first last z <;> simp

theorem grantZones_get (o : Owner) (first last : Nat) (owners : PerZone Owner) (z : Zone) :
    (grantZones o first last owners).get z = if inSet first last z = true then o else owners.get z := by
  cases z <;> rfl

theorem freeZones_get (o : Owner) (owners : PerZone Owner) (z : Zone) :
    (freeZones o owners).get z = if owners.get z = o then .none else owners.get z := by
  cases z <;> rfl

theorem zoneKey_ne_none (h : Hoist) (c : Context) : zoneKey h c ≠ .none := by
  unfold zoneKey
  split <;> exact nofun

/-- Owners replaced that leave to each load the zones it holds. -/
theorem keepsDips_owners {o : PerZone Owner} {s : State} (ho : ∀ h, (s.contexts.get h).state.ownsZones = true →
    ∀ z, s.owners.get z = zoneKey h (s.contexts.get h) → o.get z = zoneKey h (s.contexts.get h)) :
    KeepsDips s { s with owners := o } := by
  refine ⟨⟨fun hl => { hl with owned := fun h hz t ht z hs => ?_ }, fun _ ha => ⟨ha.pair, ha.pending⟩⟩,
    fun _ => Nat.le_max_right _ _⟩
  exact ho h hz z (hl.owned h hz t ht z hs)

theorem keepsDips_noWaiting (s : State) : KeepsDips s { s with waiting := none } :=
  ⟨⟨fun hl => { hl with waits := fun _ e => nomatch e }, fun _ ha => ⟨ha.pair, ha.pending⟩⟩,
    fun _ => Nat.le_max_right _ _⟩

theorem keepsDips_newWaiting {w : WaitingClaim} {s : State} (hc : w.claimant ≠ .none)
    (hw : DipLaw s → ∀ h ∈ w.claimant.hoists, Waits w h (s.contexts.get h)) :
    KeepsDips s { s with waiting := some w } := by
  refine ⟨⟨fun hl => { hl with waits := fun w' e => ?_ }, fun _ ha => ⟨ha.pair, ha.pending⟩⟩,
    fun _ => Nat.le_max_right _ _⟩
  obtain rfl := Option.some.inj e
  exact ⟨hc, hw hl⟩

/-! ## Claims granted -/

theorem dipChange_granted : DipChange Context.granted := ⟨fun _ => rfl, fun _ => rfl, fun _ => rfl⟩

theorem dipChange_claimWaits : DipChange Context.claimWaits := ⟨fun _ => rfl, fun _ => rfl, fun _ => rfl⟩

/-- A claim granted for the zone set of its tag: the zones become the claimant's, and its contexts enter LOWERING
(R106). -/
theorem keepsDips_grant {h : Hoist} {t : TagArgs} {s : State} (hl : DipLaw s) (hd : (s.contexts.get h).state = .ready
    ∨ (s.contexts.get h).state = .waitingZone ∧ s.waiting = none) (ht : (s.contexts.get h).tag = some t)
    (hg : grantable (claimantOf h s) t.firstZone t.lastZone s.owners = true) :
    KeepsDips s (modContexts (claimantOf h s).hoists Context.granted
      { s with owners := grantZones (claimantOf h s) t.firstZone t.lastZone s.owners }) := by
  have claimed : KeepsDips s { s with owners := grantZones (claimantOf h s) t.firstZone t.lastZone s.owners } := by
    refine keepsDips_owners fun x _ z hz => ?_
    rw [grantZones_get]
    split
    · next hs =>
      have free := (inSet_grantable_iff ..).1 hg z hs
      exact (free.resolve_left fun e => zoneKey_ne_none _ _ (hz.symm.trans e)).symm.trans hz
    · exact hz
  have inDip : (s.contexts.get h).state.inDip = true ∧ (s.contexts.get h).state ≠ .tagged
      ∧ (s.contexts.get h).state ≠ .abandoned := by
    rcases hd with e | ⟨e, -⟩ <;> rw [e] <;> exact ⟨rfl, nofun, nofun⟩
  rw [claimantOf_hoists]
  refine claimed.trans ?_
  rw [show members h s
    = members h { s with owners := grantZones (claimantOf h s) t.firstZone t.lastZone s.owners } from rfl,
    modContexts_members]
  refine dipChange_granted.advances .lowering inDip.1 inDip.2.1 rfl nofun (fun _ => rfl) (fun _ => rfl)
    (fun _ => .inr fun x hx u hu z hs => ?_) fun hw => ?_
  · obtain ⟨first, last⟩ := hl.sameZones hx ht hu
    rw [first, last] at hs
    exact (grantZones_get ..).trans ((if_pos hs).trans (hl.zoneKey_eq inDip.2.2 hx).symm)
  · exact .inr (hd.elim (fun e => nomatch e.symm.trans hw) (·.2))

/-- The waiting claim is that of a dip, for the zone set of its tag. -/
theorem DipLaw.waiting_dip {s : State} {w : WaitingClaim} (hl : DipLaw s) (hw : s.waiting = some w) :
    ∃ h t, (s.contexts.get h).state = .waitingZone ∧ w.claimant = claimantOf h s ∧ (s.contexts.get h).tag = some t
      ∧ t.firstZone = w.first ∧ t.lastZone = w.last := by
  obtain ⟨some', waits⟩ := hl.waits w hw
  have dip : ∀ h ∈ w.claimant.hoists, ∃ h t, (s.contexts.get h).state = .waitingZone ∧ w.claimant = claimantOf h s
      ∧ (s.contexts.get h).tag = some t ∧ t.firstZone = w.first ∧ t.lastZone = w.last := by
    intro h hm
    obtain ⟨state, key, t, ht, first, last⟩ := waits h hm
    refine ⟨h, t, state, ?_, ht, first, last⟩
    rw [← key, hl.zoneKey_eq (by simp [state]) (sharesDip_self h s)]
  cases hc : w.claimant with
  | none => exact absurd hc some'
  | hoist h => exact hc ▸ dip h (by simp [hc, Owner.hoists])
  | pair => exact hc ▸ dip .h1 (by simp [hc, Owner.hoists])

theorem keepsDips_grantWaiting (s : State) : KeepsDips s (grantWaiting s) := by
  refine .of_law fun hl => ?_
  unfold grantWaiting
  split
  · next w hw =>
    split
    · next hg =>
      obtain ⟨h, t, state, claimant, ht, first, last⟩ := hl.waiting_dip hw
      rw [claimant, ← first, ← last] at hg ⊢
      exact (keepsDips_noWaiting s).trans
        (keepsDips_grant (s := { s with waiting := none }) ((keepsDips_noWaiting s).law hl) (.inr ⟨state, rfl⟩) ht hg)
    · exact .refl s
  · exact .refl s

/-- The zones of a claimant released that no load holds as that claimant (R107). -/
theorem keepsDips_releaseZones {o : Owner} {s : State}
    (ho : DipLaw s → ∀ h, (s.contexts.get h).state.ownsZones = true → zoneKey h (s.contexts.get h) ≠ o) :
    KeepsDips s (releaseZones o s) := by
  refine .of_law fun hl => (keepsDips_owners fun h hz z he => ?_).trans (keepsDips_grantWaiting _)
  rw [freeZones_get, he, if_neg (ho hl h hz)]

/-- The hoists whose contexts take a dip's transitions are those that share it. -/
theorem mem_members_iff (h x : Hoist) (s : State) : x ∈ members h s ↔ sharesDip h x s = true := by
  rw [sharesDip_iff]
  unfold members
  cases joint s <;> cases x <;> cases h <;> simp

/-- A claim of a READY dip for the zone set of its tag is granted at once or waits (R106). -/
theorem keepsDips_submitClaim {h : Hoist} {t : TagArgs} {s : State} (hr : (s.contexts.get h).state = .ready)
    (ht : (s.contexts.get h).tag = some t) :
    KeepsDips s (submitClaim (claimantOf h s) t.firstZone t.lastZone s) := by
  refine .of_law fun hl => ?_
  unfold submitClaim
  split
  · next hg => exact keepsDips_grant hl (.inl hr) ht hg
  · have waiting : KeepsDips s (changeDip h Context.claimWaits s) :=
      dipChange_claimWaits.advances .waitingZone (by rw [hr]; rfl) (by simp [hr]) rfl nofun (fun _ => rfl)
        (fun _ => rfl) nofun (fun _ => .inl rfl)
    have claims : modContexts (members h s) Context.claimWaits
        { s with waiting := some ⟨claimantOf h s, t.firstZone, t.lastZone⟩ }
        = { changeDip h Context.claimWaits s with waiting := some ⟨claimantOf h s, t.firstZone, t.lastZone⟩ } :=
      modContexts_members h _ { s with waiting := some ⟨claimantOf h s, t.firstZone, t.lastZone⟩ }
    rw [claimantOf_hoists, claims]
    refine waiting.trans (keepsDips_newWaiting ?_ fun _ x hx => ?_)
    · show claimantOf h s ≠ .none
      unfold claimantOf
      split <;> exact nofun
    · have hx' := (mem_members_iff h x s).1 (claimantOf_hoists h s ▸ hx)
      have live : (s.contexts.get h).state ≠ .abandoned := by simp [hr]
      obtain ⟨u, hu⟩ := Option.isSome_iff_exists.1
        (hl.tagged (h := x) (by rw [hl.sameState hx', hr]; exact nofun) (by rw [hl.sameState hx', hr]; exact nofun))
      refine ⟨?_, (dipChange_claimWaits.get_zoneKey ..).trans (hl.zoneKey_eq live hx'), u,
        (dipChange_claimWaits.get_tag ..).trans hu, hl.sameZones hx' ht hu⟩
      rw [changeDip_get_shared hx']
      rfl

end Sys2Proof.Machine
end

section
/-! The transitions of a dip as changes of its contexts: entry to WEIGHING and DRAINING, the release of the claim and
the end of the dip (R88 to R91, R107, R111). -/

namespace Sys2Proof.Machine

/-! ## The contexts driven together -/

theorem joint_eq_of {s t : State} (hp : ∀ x, (t.contexts.get x).pair = (s.contexts.get x).pair)
    (hs : ∀ x, (t.contexts.get x).state = .abandoned ↔ (s.contexts.get x).state = .abandoned) : joint t = joint s := by
  rw [Bool.eq_iff_iff, joint_iff, joint_iff]
  simp only [hp, ne_eq, hs]

theorem sharesDip_of_joint {s t : State} (hj : joint t = joint s) (h x : Hoist) :
    sharesDip h x t = sharesDip h x s := by
  simp only [sharesDip, hj]

theorem changeDip_congr {h : Hoist} {f g : Context → Context} {s : State}
    (hfg : ∀ x, sharesDip h x s = true → f (s.contexts.get x) = g (s.contexts.get x)) :
    changeDip h f s = changeDip h g s := by
  have same (x : Hoist) : (if sharesDip h x s then f (s.contexts.get x) else s.contexts.get x)
      = if sharesDip h x s then g (s.contexts.get x) else s.contexts.get x := by
    split
    · next hx => exact hfg x hx
    · rfl
  have h1 := same .h1
  have h2 := same .h2
  simp only [PerHoist.get_h1, PerHoist.get_h2] at h1 h2
  simp only [changeDip, h1, h2]

/-- Of a dip that is not ABANDONED, a change that keeps the pair links and abandons nothing leaves the hoists driven
together as they were. -/
theorem joint_changeDip {h : Hoist} {f : Context → Context} {s : State} (ha : (s.contexts.get h).state ≠ .abandoned)
    (hp : ∀ c, (f c).pair = c.pair) (hs : ∀ c, c.state ≠ .abandoned → (f c).state ≠ .abandoned) :
    joint (changeDip h f s) = joint s := by
  refine joint_eq_of (fun x => ?_) fun x => ?_ <;> rw [changeDip_get] <;> split
  · exact hp _
  · rfl
  · next hx =>
    have live : (s.contexts.get x).state ≠ .abandoned := by
      rcases (sharesDip_iff h x s).1 hx with rfl | hj
      · exact ha
      · exact ((joint_iff s).1 hj x).2
    exact iff_of_false (hs _ live) live
  · rfl

/-! ## Entry to WEIGHING and DRAINING -/

/-- Entry to WEIGHING: the settle counts start again, and the contexts enter it (R88). -/
theorem enterWeighing_members (h : Hoist) (pr : Profile) (s : State) : enterWeighing (members h s) pr s
    = changeDip h (fun c => { c with
        state := .weighing, drainTimer := none, weighTimer := some (s.now + pr.weighTimeout * 100) })
      (restartSettle h s) := by
  have settled : (members h s).foldl (fun s h => s.setChannel h { s.channels.get h with settle := 0 }) s
      = restartSettle h s := by
    unfold members restartSettle sharesDip
    cases joint s <;> cases h <;> rfl
  rw [enterWeighing, settled]
  exact modContexts_members h _ (restartSettle h s)

/-- The contexts of a dip as DRAINING finds them (R83, R85). -/
def Context.drains (pr : Profile) (short : Bool) (now : Nat) (c : Context) : Context := { c with
  state := .draining, tDrain := some now, grounded := false, drainTimer := some (now + pr.drainDwell * 100)
  flags := { c.flags with shortImmersion := c.flags.shortImmersion || short } }

/-- A drain dwell of 0 takes the dip through DRAINING into WEIGHING (R88). -/
theorem enterDraining_members (h : Hoist) (pr : Profile) (short : Bool) {s : State}
    (ha : (s.contexts.get h).state ≠ .abandoned) : enterDraining (members h s) pr short s
    = if pr.drainDwell = 0
      then enterWeighing (members h (changeDip h (Context.drains pr short s.now) s)) pr
        (changeDip h (Context.drains pr short s.now) s)
      else changeDip h (Context.drains pr short s.now) s := by
  have drained : members h (changeDip h (Context.drains pr short s.now) s) = members h s := by
    rw [members, joint_changeDip (f := Context.drains pr short s.now) ha (fun _ => rfl) (fun _ _ => nofun)]
    rfl
  unfold enterDraining
  rw [drained]
  simp only [modContexts_members]
  rfl

/-! ## The claim released -/

/-- A context whose claim is none (R89). -/
def Context.unclaimed (c : Context) : Context := { c with claim := .none }

theorem dipChange_unclaimed : DipChange Context.unclaimed := ⟨fun _ => rfl, fun _ => rfl, fun _ => rfl⟩

theorem releaseClaim_eq (h : Hoist) (s : State) :
    releaseClaim h s = if (s.contexts.get h).claim = .held then releaseDip h s else s := by
  unfold releaseClaim
  rw [modContexts_members]
  rfl

/-- A release of zones leaves each context as it was, or grants its waiting claim (R107). -/
theorem releaseZones_get (o : Owner) (x : Hoist) (s : State) :
    (releaseZones o s).contexts.get x = s.contexts.get x ∨ ∃ w, s.waiting = some w ∧ x ∈ w.claimant.hoists
      ∧ (releaseZones o s).contexts.get x = (s.contexts.get x).granted := by
  unfold releaseZones grantWaiting
  split
  · next w e =>
    split
    · rw [modContexts_claims]
      refine modContexts_induct (s := { s with owners := freeZones o s.owners }) (f := Context.granted)
        (P := fun x c => c = s.contexts.get x
          ∨ ∃ w, s.waiting = some w ∧ x ∈ w.claimant.hoists ∧ c = (s.contexts.get x).granted)
        (fun y hy c hc => ?_) (fun _ => .inl rfl) x
      refine .inr ⟨w, e, hy, ?_⟩
      rcases hc with rfl | ⟨-, -, -, rfl⟩ <;> rfl
    · exact .inl rfl
  · exact .inl rfl

/-- A context whose waiting claim is granted was in WAITING_ZONE. -/
theorem releaseZones_granted {s : State} (hw : waitingOk s = true) (o : Owner) (x : Hoist) :
    (releaseZones o s).contexts.get x = s.contexts.get x
      ∨ (s.contexts.get x).state = .waitingZone ∧ (releaseZones o s).contexts.get x = (s.contexts.get x).granted :=
  (releaseZones_get o x s).imp_right fun ⟨w, e, hx, granted⟩ => ⟨(((waitingOk_iff s).1 hw w e).2 x hx).1, granted⟩

theorem joint_releaseZones {s : State} (hw : waitingOk s = true) (o : Owner) : joint (releaseZones o s) = joint s := by
  refine joint_eq_of (fun x => ?_) fun x => ?_ <;> rcases releaseZones_granted hw o x with e | ⟨hs, e⟩ <;> rw [e]
  · rfl
  · rw [hs]
    exact iff_of_false nofun nofun

/-- The waiting claim is in order whatever claims are held. -/
theorem waitingOk_unclaimed (h : Hoist) {s : State} (hw : waitingOk s = true) :
    waitingOk (changeDip h Context.unclaimed s) = true := by
  rw [waitingOk_iff] at hw ⊢
  intro w e
  refine ⟨(hw w e).1, fun x hx => ?_⟩
  obtain ⟨state, key, tag⟩ := (hw w e).2 x hx
  refine ⟨?_, (dipChange_unclaimed.get_zoneKey ..).trans key, (dipChange_unclaimed.get_tag h x s).symm ▸ tag⟩
  rw [changeDip_get]
  split <;> exact state

theorem joint_unclaimed (h : Hoist) (s : State) : joint (changeDip h Context.unclaimed s) = joint s := by
  refine joint_eq_of (fun x => ?_) fun x => ?_ <;> rw [changeDip_get] <;> split <;> rfl

theorem joint_releaseDip (h : Hoist) {s : State} (hw : waitingOk s = true) : joint (releaseDip h s) = joint s :=
  (joint_releaseZones (waitingOk_unclaimed h hw) _).trans (joint_unclaimed h s)

/-- The release of a dip that waits for no zone takes the claim of its contexts, and nothing else of them. -/
theorem releaseDip_get {h x : Hoist} {s : State} (hw : waitingOk s = true) (hx : sharesDip h x s = true)
    (hs : (s.contexts.get x).state ≠ .waitingZone) :
    (releaseDip h s).contexts.get x = (s.contexts.get x).unclaimed := by
  have own : (changeDip h Context.unclaimed s).contexts.get x = (s.contexts.get x).unclaimed := changeDip_get_shared hx
  rcases releaseZones_granted (waitingOk_unclaimed h hw) (dipClaimant h s) x with e | ⟨e, -⟩
  · exact e.trans own
  · rw [own] at e
    exact absurd e hs

end Sys2Proof.Machine
end

section
/-! Every event of a dip keeps the law of the dips: transitions, the closes that end a dip, the abort and the jig weigh
(R76 to R95, R115). -/

namespace Sys2Proof.Machine

/-! ## Contexts that hold nothing -/

/-- A context that holds no place, no zone and no partner, and waits for a partner only as TAG LOAD leaves it. -/
structure Context.Free (c : Context) : Prop where
  matched : c.tagMatchesState = true
  placed : c.reservedMatchesState = true
  unreserved : c.reserved = false
  alone : c.pair ≠ .paired
  pending : c.pair = .partnerPending → c.state = .tagged ∧ c.figures = pendingFigures c.flags.overloadSeen
  zones : c.state.ownsZones = false

theorem free_toIdle (c : Context) : c.toIdle.Free := ⟨rfl, rfl, rfl, nofun, nofun, rfl⟩

theorem free_tagged (c : Context) (t : TagArgs) {link : PairLink} (hp : link ≠ .paired) : (c.tagged t link).Free := by
  refine ⟨rfl, rfl, rfl, hp, fun e => ⟨rfl, ?_⟩, rfl⟩
  obtain rfl : link = .partnerPending := e
  rfl

namespace DipLaw

variable {s : State} {h : Hoist}

/-- Of hoists not driven as one, a context's pair link is in order beside any other context. -/
theorem link_alone (hl : DipLaw s) (hj : joint s = false) (x : Hoist) (c : Context) :
    pairLinkOk (s.contexts.get x) c = true := by
  have before := (pairLinkOk_iff _ _).1 (hl.linked x)
  exact (pairLinkOk_iff _ _).2 ⟨before.1, fun hp => ⟨(before.2 hp).1, fun ha => absurd (hl.alone_abandoned hj hp) ha⟩⟩

/-- A context in IDLE or JIG_WEIGH has no tag, no pair link and no place. -/
theorem untagged (hl : DipLaw s) (hs : (s.contexts.get h).state = .idle ∨ (s.contexts.get h).state = .jigWeigh) :
    (s.contexts.get h).tag = none ∧ (s.contexts.get h).pair = .none ∧ (s.contexts.get h).reserved = false := by
  have tag : (s.contexts.get h).tag = none := by
    have hm := (tagMatchesState_iff _).1 (hl.matched h)
    rw [← not_or] at hm
    simpa using fun e => hm.1 e hs
  refine ⟨tag, ?_, ?_⟩
  · have link := (pairLinkOk_iff _ _).1 (hl.linked h)
    cases hp : (s.contexts.get h).pair with
    | none => rfl
    | partnerPending =>
      have ht := link.1 hp
      rcases hs with e | e <;> cases e.symm.trans ht
    | paired => simpa [tag] using (link.2 hp).1
  · rw [(reservedMatchesState_iff _).1 (hl.placed h)]
    rcases hs with e | e <;> rw [e] <;> rfl

theorem alone_of_untagged (hl : DipLaw s)
    (hs : (s.contexts.get h).state = .idle ∨ (s.contexts.get h).state = .jigWeigh) : joint s = false := by
  rw [← Bool.not_eq_true, joint_iff]
  intro hj
  have pair := (hl.untagged hs).2.1
  rw [(hj h).1] at pair
  cases pair

/-- Contexts replaced that are each in order, leaving those that own zones or wait for them. -/
theorem of_contexts (hl : DipLaw s) {p : PerHoist Context} (hm : ∀ x, (p.get x).tagMatchesState = true)
    (hr : ∀ x, (p.get x).reservedMatchesState = true) (hk : ∀ x, pairLinkOk (p.get x) (p.get x.other) = true)
    (ho : ∀ x, (p.get x).state.ownsZones = true → p.get x = s.contexts.get x)
    (hw : ∀ x, (s.contexts.get x).state = .waitingZone → p.get x = s.contexts.get x ∨ s.waiting = none) :
    DipLaw { s with contexts := p } := by
  refine ⟨hm, hr, hk, fun x hx => ?_, fun w e => ⟨(hl.waits w e).1, fun x hx => ?_⟩⟩
  · have same := ho x hx
    have owned := hl.owned x (by rw [← same]; exact hx)
    show ∀ t, (p.get x).tag = some t → ∀ z, inSet t.firstZone t.lastZone z = true → s.owners.get z = zoneKey x (p.get x)
    rw [same]
    exact owned
  · have waits := (hl.waits w e).2 x hx
    show Waits w x (p.get x)
    rcases hw x waits.1 with same | none'
    · rwa [same]
    · cases none'.symm.trans e

/-- Places reserved by a dip are given up by a change that takes the reservation of its contexts. -/
theorem reservedPlaces_given_up (hl : DipLaw s) {f : Context → Context}
    (hf : ∀ x, sharesDip h x s = true → (f (s.contexts.get x)).reserved = false) :
    reservedPlaces (changeDip h f s) + bit (s.contexts.get h).reserved ≤ reservedPlaces s := by
  have own : ((changeDip h f s).contexts.get h).reserved = false := by
    rw [changeDip_get_shared (sharesDip_self h s)]
    exact hf h (sharesDip_self h s)
  rw [reservedPlaces_of_not_reserved own]
  have other : bit ((changeDip h f s).contexts.get h.other).reserved
      = bit (!joint s && (s.contexts.get h.other).reserved) := by
    cases hx : sharesDip h h.other s with
    | true =>
      have hj := ((sharesDip_iff ..).1 hx).resolve_left (Hoist.other_ne h)
      rw [changeDip_get_shared hx, hf _ hx, hj]
      rfl
    | false => rw [changeDip_get_else hx, (sharesDip_other_false hx).2]; rfl
  rw [other]
  cases hr : (s.contexts.get h).reserved with
  | true =>
    rw [hl.reservedPlaces_eq hr]
    simp only [bit, if_true]
    omega
  | false =>
    rw [reservedPlaces_of_not_reserved hr]
    cases joint s <;> simp [bit]

end DipLaw

/-- The contexts of a dip left free: the law is kept, and the place given up. -/
theorem keepsLaw_freed {h : Hoist} {f : Context → Context} {s : State}
    (hf : DipLaw s → ∀ x, sharesDip h x s = true → (f (s.contexts.get x)).Free)
    (hw : (s.contexts.get h).state ≠ .waitingZone ∨ s.waiting = none) : KeepsLaw s (changeDip h f s) := by
  refine .of_law fun hl => ?_
  have each (x : Hoist) : sharesDip h x s = false ∧ (changeDip h f s).contexts.get x = s.contexts.get x
      ∨ sharesDip h x s = true ∧ ((changeDip h f s).contexts.get x).Free := by
    cases hx : sharesDip h x s with
    | true => exact .inr ⟨rfl, changeDip_get_shared (f := f) hx ▸ hf hl x hx⟩
    | false => exact .inl ⟨rfl, changeDip_get_else hx⟩
  have own := (each h).resolve_left fun e => by simp at e
  refine ⟨fun _ => ?_, fun _ ha => ⟨fun hj => absurd ((joint_iff _).1 hj h).1 own.2.alone, fun x => ?_⟩⟩
  · refine hl.of_contexts (p := (changeDip h f s).contexts) (fun x => ?_) (fun x => ?_) (fun x => ?_) (fun x => ?_)
      fun x hx => ?_
    · rcases each x with ⟨-, e⟩ | ⟨-, free⟩
      · exact e ▸ hl.matched x
      · exact free.matched
    · rcases each x with ⟨-, e⟩ | ⟨-, free⟩
      · exact e ▸ hl.placed x
      · exact free.placed
    · rcases each x with ⟨hx, e⟩ | ⟨-, free⟩
      · exact e ▸ hl.link_alone (sharesDip_other_false hx).2 x _
      · exact (pairLinkOk_iff _ _).2 ⟨fun hp => (free.pending hp).1, fun hp => absurd hp free.alone⟩
    · rcases each x with ⟨-, e⟩ | ⟨-, free⟩
      · exact fun _ => e
      · exact fun ho => nomatch free.zones.symm.trans ho
    · rcases each x with ⟨-, e⟩ | ⟨hs, -⟩
      · exact .inl e
      · exact .inr (hw.resolve_left fun hn => hn (by rw [← hl.sameState hs, hx]))
  · rcases each x with ⟨-, e⟩ | ⟨-, free⟩
    · exact e ▸ ha.pending x
    · exact fun hp => (free.pending hp).2

theorem keepsDips_freed {h : Hoist} {f : Context → Context} {s : State}
    (hf : DipLaw s → ∀ x, sharesDip h x s = true → (f (s.contexts.get x)).Free)
    (hw : (s.contexts.get h).state ≠ .waitingZone ∨ s.waiting = none) : KeepsDips s (changeDip h f s) := by
  refine ⟨keepsLaw_freed hf hw, fun hl => ?_⟩
  have places := hl.reservedPlaces_given_up fun x hx => (hf hl x hx).unreserved
  have records : (changeDip h f s).records = s.records := rfl
  unfold placesTaken
  rw [records]
  omega

theorem setContext_eq_changeDip {h : Hoist} {s : State} (hj : joint s = false) (c : Context) :
    s.setContext h c = changeDip h (fun _ => c) s := by
  unfold changeDip sharesDip State.setContext
  rw [hj]
  cases h <;> rfl

/-- One context, of hoists not driven as one, left free. -/
theorem keepsDips_setContext {h : Hoist} {c : Context} {s : State} (hj : DipLaw s → joint s = false)
    (hf : DipLaw s → c.Free) (hw : (s.contexts.get h).state ≠ .waitingZone ∨ s.waiting = none) :
    KeepsDips s (s.setContext h c) := by
  refine .of_law fun hl => ?_
  rw [setContext_eq_changeDip (hj hl)]
  exact keepsDips_freed (fun hl _ _ => hf hl) hw

/-! ## Jig weighing (R94, R95) -/

/-- A context moved between IDLE and JIG_WEIGH. -/
theorem keepsDips_untagged {h : Hoist} {st : DipState} (j : JigWeigh) {s : State}
    (hs : (s.contexts.get h).state = .idle ∨ (s.contexts.get h).state = .jigWeigh) (hst : st = .idle ∨ st = .jigWeigh) :
    KeepsDips s (s.setContext h { s.contexts.get h with state := st, jigWeigh := j }) := by
  refine keepsDips_setContext (fun hl => hl.alone_of_untagged hs) (fun hl => ?_) (.inl ?_)
  · obtain ⟨tag, pair, reserved⟩ := hl.untagged hs
    have idle : st.ownsZones = false ∧ st.inDip = false := by rcases hst with rfl | rfl <;> exact ⟨rfl, rfl⟩
    refine ⟨?_, ?_, reserved, by simp [pair], by simp [pair], idle.1⟩
    · rw [tagMatchesState_iff, ← not_or]
      simp [tag, hst]
    · rw [reservedMatchesState_iff]
      simp [reserved, idle.2]
  · rcases hs with e | e <;> rw [e] <;> exact nofun

theorem keepsDips_jigWeighExpired {h : Hoist} {s : State} (hj : (s.contexts.get h).state = .jigWeigh) :
    KeepsDips s (jigWeighExpired h s) := keepsDips_untagged _ (.inr hj) (.inl rfl)

theorem keepsDips_sampleJigWeigh {h : Hoist} {s : State} (hj : (s.contexts.get h).state = .jigWeigh) :
    KeepsDips s (sampleJigWeigh h s) := by
  unfold sampleJigWeigh
  split
  · split
    · have charged (n : Nat) (f : Jig → Jig) : KeepsDips s (modJig n f s) :=
        SameDips.keeps (.of_same rfl rfl rfl) (Nat.le_of_eq rfl)
      exact (charged _ _).trans (keepsDips_untagged _ (.inr hj) (.inl rfl))
    · exact .refl s
  · exact .refl s

/-! ## The transitions before the bath (R79, R80) -/

theorem dipChange_capture (wDry : Int) (tare buoyancy now : Nat) :
    DipChange (fun c => c.capture wDry tare buoyancy now) := ⟨fun _ => rfl, fun _ => rfl, fun _ => rfl⟩

/-- The tare capture takes a place where one is free (R79, R149). -/
theorem keepsDips_capture {h : Hoist} {s : State} (wDry : Int) (tare buoyancy now : Nat)
    (hs : (s.contexts.get h).state = .tagged) (hp : (s.contexts.get h).pair ≠ .partnerPending)
    (hf : placeFree s = true) : KeepsDips s (changeDip h (fun c => c.capture wDry tare buoyancy now) s) := by
  have captured : Moves h (fun c => c.capture wDry tare buoyancy now) .ready s := {
    dipChange_capture wDry tare buoyancy now with
    start := by rw [hs]; rfl
    stop := .inl rfl
    state := fun _ _ => rfl
    placed := fun _ _ _ => rfl
    pending := fun _ e => absurd e hp
    zones := nofun
    waits := fun e => nomatch hs.symm.trans e }
  refine ⟨captured.keepsLaw, fun hl => ?_⟩
  have records : (changeDip h (fun c => c.capture wDry tare buoyancy now) s).records = s.records := rfl
  have before : (s.contexts.get h).reserved = false := by
    rw [(reservedMatchesState_iff _).1 (hl.placed h), hs]
    rfl
  have after : ((changeDip h (fun c => c.capture wDry tare buoyancy now) s).contexts.get h).reserved = true := by
    rw [changeDip_get_shared (sharesDip_self h s)]
    rfl
  have joint' : joint (changeDip h (fun c => c.capture wDry tare buoyancy now) s) = joint s :=
    joint_changeDip (by simp [hs]) (fun _ => rfl) (fun _ _ => nofun)
  have other : bit (!joint s && ((changeDip h (fun c => c.capture wDry tare buoyancy now) s).contexts.get
      h.other).reserved) ≤ bit (s.contexts.get h.other).reserved := by
    cases hj : joint s with
    | true => exact Nat.zero_le _
    | false =>
      rw [changeDip_get_else (by simp [sharesDip, hj])]
      exact Nat.le_refl _
  have taken := reservedPlaces_of_not_reserved before
  have taken' := (captured.law hl).reservedPlaces_eq after
  rw [joint'] at taken'
  have free := of_decide_eq_true hf
  simp only [Config.recordPlaces] at free
  unfold placesTaken
  rw [records]
  omega

theorem keepsDips_sampleTagged {h : Hoist} {s : State} (hs : (s.contexts.get h).state = .tagged) :
    KeepsDips s (sampleTagged h s) := by
  unfold sampleTagged
  split
  · split
    · next hc =>
      simp only [Bool.and_eq_true, bne_iff_ne] at hc
      simp only [modContexts_members]
      split
      · next hf => exact keepsDips_capture _ _ _ _ hs hc.1.1 hf
      · have waits : DipChange (fun c => { c with queueWait := true }) := ⟨fun _ => rfl, fun _ => rfl, fun _ => rfl⟩
        exact waits.rests (by rw [hs]; rfl) (fun _ => rfl) (fun _ => rfl) fun _ e => absurd e hc.1.1
    · exact .refl s
  · exact .refl s

theorem keepsDips_sampleReady {h : Hoist} {s : State} (hs : (s.contexts.get h).state = .ready) :
    KeepsDips s (sampleReady h s) := by
  unfold sampleReady
  split
  · next ht _ =>
    split
    · exact keepsDips_submitClaim hs ht
    · exact .refl s
  · exact .refl s

/-! ## The transitions in the bath (R82 to R88) -/

theorem DipState.inDip_of_ownsZones {st : DipState} (hz : st.ownsZones = true) (ha : st ≠ .abandoned) :
    st.inDip = true ∧ st ≠ .tagged ∧ st ≠ .waitingZone := by
  cases st <;> simp_all [DipState.ownsZones, DipState.overKettle, DipState.inDip]

/-- A dip over the kettle taken on to another state of the dip, its place and its zones kept. -/
theorem DipChange.goes {f : Context → Context} (hf : DipChange f) {h : Hoist} {s : State} (st : DipState)
    (hk : (s.contexts.get h).state.overKettle = true) (hd : st.inDip = true) (ht : st ≠ .tagged)
    (hs : ∀ c, (f c).state = st) (hr : ∀ c, (f c).reserved = c.reserved) : KeepsDips s (changeDip h f s) := by
  have zones : (s.contexts.get h).state.ownsZones = true := by simp [DipState.ownsZones, hk]
  have live : (s.contexts.get h).state ≠ .abandoned := by
    intro e
    rw [e] at hk
    cases hk
  obtain ⟨dip, tagged, waits⟩ := DipState.inDip_of_ownsZones zones live
  exact hf.advances st dip tagged hd ht hs hr (fun _ => .inl zones) (fun e => absurd e waits)

theorem keepsDips_restartSettle (h : Hoist) (s : State) : KeepsDips s (restartSettle h s) :=
  SameDips.keeps (.of_same rfl rfl rfl) (Nat.le_of_eq rfl)

theorem keepsDips_enterWeighing {h : Hoist} (pr : Profile) {s : State}
    (hk : (s.contexts.get h).state.overKettle = true) : KeepsDips s (enterWeighing (members h s) pr s) := by
  rw [enterWeighing_members]
  refine (keepsDips_restartSettle h s).trans (DipChange.goes ?_ .weighing hk rfl nofun (fun _ => rfl) fun _ => rfl)
  exact ⟨fun _ => rfl, fun _ => rfl, fun _ => rfl⟩

theorem dipChange_drains (pr : Profile) (short : Bool) (now : Nat) : DipChange (Context.drains pr short now) :=
  ⟨fun _ => rfl, fun _ => rfl, fun _ => rfl⟩

theorem keepsDips_enterDraining {h : Hoist} (pr : Profile) (short : Bool) {s : State}
    (hk : (s.contexts.get h).state.overKettle = true) : KeepsDips s (enterDraining (members h s) pr short s) := by
  have drains : KeepsDips s (changeDip h (Context.drains pr short s.now) s) :=
    (dipChange_drains pr short s.now).goes .draining hk rfl nofun (fun _ => rfl) fun _ => rfl
  rw [enterDraining_members h pr short (by rintro e; rw [e] at hk; cases hk)]
  split
  · refine drains.trans (keepsDips_enterWeighing pr ?_)
    rw [changeDip_get_shared (sharesDip_self h s)]
    rfl
  · exact drains

/-- The contexts of a dip as IMMERSED finds them (R77, R83, R85). -/
def Context.immerses (pr : Profile) (again : Bool) (now : Nat) (c : Context) : Context := { c with
  state := .immersed
  tImmersion := some (c.tImmersion.getD now)
  dwellDeadline := if c.tImmersion.isSome then c.dwellDeadline else some (now + pr.minDwell * 100)
  flags := { c.flags with reImmersed := c.flags.reImmersed || again } }

theorem dipChange_immerses (pr : Profile) (again : Bool) (now : Nat) : DipChange (Context.immerses pr again now) :=
  ⟨fun _ => rfl, fun _ => rfl, fun _ => rfl⟩

theorem enterImmersed_members (h : Hoist) (pr : Profile) (again : Bool) (s : State) :
    enterImmersed (members h s) pr again s = changeDip h (Context.immerses pr again s.now) s := by
  unfold enterImmersed
  rw [modContexts_members]
  congr 1
  funext c
  unfold Context.immerses
  cases c with
  | mk _ _ _ _ _ _ _ _ _ _ _ tImmersion _ _ _ _ _ _ _ _ _ _ _ _ _ => cases tImmersion <;> rfl

theorem keepsDips_enterImmersed {h : Hoist} (pr : Profile) (again : Bool) {s : State}
    (hk : (s.contexts.get h).state.overKettle = true) : KeepsDips s (enterImmersed (members h s) pr again s) := by
  rw [enterImmersed_members]
  exact (dipChange_immerses pr again s.now).goes .immersed hk rfl nofun (fun _ => rfl) fun _ => rfl

theorem keepsDips_sampleLowering {h : Hoist} {s : State} (hk : (s.contexts.get h).state.overKettle = true) :
    KeepsDips s (sampleLowering h s) := by
  unfold sampleLowering
  split
  · split
    · rw [modContexts_members]
      refine DipChange.goes ⟨?_, ?_, ?_⟩ .entering hk rfl nofun ?_ ?_ <;> exact fun _ => rfl
    · exact .refl s
  · exact .refl s

theorem keepsDips_sampleEntering {h : Hoist} {s : State} (hk : (s.contexts.get h).state.overKettle = true) :
    KeepsDips s (sampleEntering h s) := by
  unfold sampleEntering
  split
  · split
    · exact keepsDips_enterImmersed _ _ hk
    · split
      · exact keepsDips_enterDraining _ _ hk
      · exact .refl s
  · exact .refl s

theorem keepsDips_sampleWithdrawing {h : Hoist} {s : State} (hk : (s.contexts.get h).state.overKettle = true) :
    KeepsDips s (sampleWithdrawing h s) := by
  unfold sampleWithdrawing
  split
  · split
    · exact keepsDips_enterImmersed _ _ hk
    · split
      · exact keepsDips_enterDraining _ _ hk
      · exact .refl s
  · exact .refl s

theorem keepsDips_sampleImmersed {h : Hoist} {s : State} (hk : (s.contexts.get h).state.overKettle = true) :
    KeepsDips s (sampleImmersed h s) := by
  unfold sampleImmersed
  split
  · split
    · rw [modContexts_members]
      refine DipChange.goes ⟨?_, ?_, ?_⟩ .withdrawing hk rfl nofun ?_ ?_ <;> exact fun _ => rfl
    · exact .refl s
  · exact .refl s

/-! ## The closes that end a dip (R89 to R91) -/

theorem AccountsOnly.sameDips {s t : State} (h : AccountsOnly s t) : SameDips s t := by
  obtain ⟨x, r, n, f, rfl⟩ := h
  exact .of_same rfl rfl rfl

theorem closeNormal_length (c : Context) (t : TagArgs) (hoist : RecordHoist) (w : Int) (s : State) :
    (closeNormal c t hoist w s).records.length = s.records.length + 1 := by
  simp [closeNormal, writeRecord_records, modJob, modJig]

theorem closeUnweighed_length (c : Context) (t : TagArgs) (hoist : RecordHoist) (s : State) :
    (closeUnweighed c t hoist s).records.length = s.records.length + 1 := by
  simp [closeUnweighed, chargeUnweighed, writeRecord_records, modJob, modJig]

theorem DipLaw.waitingOk {s : State} (hl : DipLaw s) : waitingOk s = true := (waitingOk_iff s).2 hl.waits

/-- The claim of a weighing dip released: its zones are under no load that holds them as its claimant (R89). -/
theorem keepsDips_releaseClaim {h : Hoist} {s : State} (hs : (s.contexts.get h).state = .weighing) :
    KeepsDips s (releaseClaim h s) := by
  have unclaimed : KeepsDips s (changeDip h Context.unclaimed s) :=
    dipChange_unclaimed.rests (by rw [hs]; rfl) (fun _ => rfl) (fun _ => rfl) fun e => nomatch hs.symm.trans e
  rw [releaseClaim_eq]
  split
  · refine .of_law fun hl => unclaimed.trans (keepsDips_releaseZones fun hl' x hx => ?_)
    have joint' := joint_unclaimed h s
    have shared : ∀ y, sharesDip h y s = true →
        ((changeDip h Context.unclaimed s).contexts.get y).state = .weighing := fun y hy => by
      rw [changeDip_get_shared hy]
      exact (hl.sameState hy).trans hs
    cases hy : sharesDip h x s with
    | true =>
      rw [shared x hy] at hx
      cases hx
    | false =>
      obtain ⟨rfl, hj⟩ := sharesDip_other_false hy
      unfold dipClaimant zoneKey
      rw [hj]
      split
      · exact nofun
      · exact fun e => Hoist.other_ne h (Owner.hoist.inj e)
  · exact .refl s

theorem releaseClaim_get {h x : Hoist} {s : State} (hw : (s.contexts.get h).claim = .held → waitingOk s = true)
    (hx : sharesDip h x s = true) (hs : (s.contexts.get x).state ≠ .waitingZone) :
    (releaseClaim h s).contexts.get x = s.contexts.get x
      ∨ (releaseClaim h s).contexts.get x = (s.contexts.get x).unclaimed := by
  rw [releaseClaim_eq]
  split
  · next hc => exact .inr (releaseDip_get (hw hc) hx hs)
  · exact .inl rfl

theorem joint_releaseClaim {h : Hoist} {s : State} (hw : (s.contexts.get h).claim = .held → waitingOk s = true) :
    joint (releaseClaim h s) = joint s := by
  rw [releaseClaim_eq]
  split
  · next hc => exact joint_releaseDip h (hw hc)
  · rfl

/-- The end of a dip: its claim released, and its contexts back in IDLE (R91). -/
theorem finishDip_eq {h : Hoist} {s : State} (hw : (s.contexts.get h).claim = .held → waitingOk s = true) :
    finishDip h s = changeDip h Context.toIdle (releaseClaim h s) := by
  have shared : members h s = members h (releaseClaim h s) := by
    unfold members
    rw [joint_releaseClaim hw]
  rw [finishDip, shared, modContexts_members]

/-- A dip closed by one record more gives up its place (R91, R149). -/
theorem keepsDips_finishDip {h : Hoist} {s t : State} (hc : SameDips s t) (hr : t.records.length = s.records.length + 1)
    (hs : (s.contexts.get h).state = .weighing) : KeepsDips s (finishDip h t) := by
  refine .of_law fun hl => ?_
  have law := hc.keepsLaw.law hl
  have weighing : (t.contexts.get h).state = .weighing := (hc.state h).trans hs
  have released := keepsDips_releaseClaim weighing
  have still : ((releaseClaim h t).contexts.get h).state = .weighing := by
    rcases releaseClaim_get (fun _ => law.waitingOk) (sharesDip_self h t) (by simp [weighing]) with e | e <;> rw [e] <;>
      exact weighing
  have ended : KeepsLaw (releaseClaim h t) (finishDip h t) := by
    rw [finishDip_eq fun _ => law.waitingOk]
    exact keepsLaw_freed (fun _ _ _ => free_toIdle _) (.inl (by simp [still]))
  refine ⟨(hc.keepsLaw.trans released.toKeepsLaw).trans ended, fun _ => ?_⟩
  have reserved : ((releaseClaim h t).contexts.get h).reserved = true := by
    rw [(reservedMatchesState_iff _).1 ((released.law law).placed h), still]
    rfl
  have given := (released.law law).reservedPlaces_given_up (h := h) (f := Context.toIdle) fun _ _ => rfl
  have taken := released.places law
  have same := reservedPlaces_congr (fun h => reserved_of_figures (hc.figures h)) hc.pair
  have records : (changeDip h Context.toIdle (releaseClaim h t)).records = (releaseClaim h t).records := rfl
  rw [finishDip_eq fun _ => law.waitingOk]
  rw [reserved] at given
  simp only [placesTaken, records, bit, if_true] at given taken ⊢
  omega

theorem keepsDips_dipNormal {h : Hoist} {w : Int} {s : State} (hs : (s.contexts.get h).state = .weighing) :
    KeepsDips s (dipNormal h w s) := by
  unfold dipNormal
  split
  · exact keepsDips_finishDip (closeNormal_accountsOnly ..).sameDips (closeNormal_length ..) hs
  · exact .refl s

/-- The tests of WEIGHING: the claim released, and then the wet weight (R89). -/
theorem keepsDips_sampleWeighing {h : Hoist} {s : State} (hs : (s.contexts.get h).state = .weighing) :
    KeepsDips s (sampleWeighing h s) := by
  have wet (u : State) (hu : (u.contexts.get h).state = .weighing) : KeepsDips u (match dipFiltered h u with
      | some f => if dipSettled h u then dipNormal h f u else u
      | none => u) := by
    split
    · split
      · exact keepsDips_dipNormal hu
      · exact .refl u
    · exact .refl u
  refine .of_law fun hl => ?_
  have still : ((releaseClaim h s).contexts.get h).state = .weighing := by
    rcases releaseClaim_get (fun _ => hl.waitingOk) (sharesDip_self h s) (by simp [hs]) with e | e <;> rw [e] <;>
      exact hs
  unfold sampleWeighing
  split
  · split
    · exact (keepsDips_releaseClaim hs).trans (wet _ still)
    · exact wet s hs
  · exact wet s hs

theorem keepsDips_sampleAbandoned {h : Hoist} {s : State} (hs : (s.contexts.get h).state = .abandoned) :
    KeepsDips s (sampleAbandoned h s) := by
  have alone : joint s = false := by
    rw [← Bool.not_eq_true, joint_iff]
    exact fun hj => (hj h).2 hs
  have left : KeepsDips s (s.setContext h (s.contexts.get h).toIdle) :=
    keepsDips_setContext (fun _ => alone) (fun _ => free_toIdle _) (.inl (by simp [hs]))
  have own (x : Hoist) (hx : ((s.setContext h (s.contexts.get h).toIdle).contexts.get x).state.ownsZones = true) :
      x = h.other ∧ (s.setContext h (s.contexts.get h).toIdle).contexts.get x = s.contexts.get x := by
    rw [State.setContext_get] at hx ⊢
    split at hx
    · cases hx
    · next hn => exact ⟨Hoist.eq_other_of_ne hn, if_neg hn⟩
  unfold sampleAbandoned
  split
  · simp only
    split
    · split
      · split
        · exact left
        · next hp =>
          refine .of_law fun hl => left.trans (keepsDips_releaseZones fun _ x hx => ?_)
          obtain ⟨rfl, same⟩ := own x hx
          rw [same, zoneKey]
          split
          · next hp' => exact absurd ⟨hl.alone_abandoned alone hp', hp'⟩ hp
          · exact nofun
      · refine left.trans (keepsDips_releaseZones fun _ x hx => ?_)
        obtain ⟨rfl, same⟩ := own x hx
        rw [same, zoneKey]
        split
        · exact nofun
        · exact fun e => Hoist.other_ne h (Owner.hoist.inj e)
    · exact .refl s
  · exact .refl s

end Sys2Proof.Machine
end

section
/-! Every step keeps the law of the dips and the figures of a pair alike: by what the step's one event is (R75, R105,
R110, R111, R149). -/

namespace Sys2Proof.Machine

/-! ## The sample at a context and the timers (R76, R88, R90, R92) -/

theorem keepsDips_markOverload (h : Hoist) (s : State) : KeepsDips s (markOverload h s) := by
  unfold markOverload
  split
  · next hd =>
    rw [Bool.and_eq_true] at hd
    rw [modContexts_members]
    refine DipChange.rests ⟨?_, ?_, ?_⟩ hd.1 ?_ ?_ fun _ hp c hc => ?_
    case refine_6 =>
      exact congrArg (fun x : Context => { x with flags := { x.flags with overloadSeen := true } }) hc
    all_goals exact fun _ => rfl
  · exact .refl s

theorem keepsDips_transitionTest (h : Hoist) (s : State) : KeepsDips s (transitionTest h s) := by
  unfold transitionTest
  cases hs : (s.contexts.get h).state with
  | idle | waitingZone | draining => exact .refl s
  | jigWeigh => exact keepsDips_sampleJigWeigh hs
  | tagged => exact keepsDips_sampleTagged hs
  | ready => exact keepsDips_sampleReady hs
  | lowering => exact keepsDips_sampleLowering (by rw [hs]; rfl)
  | entering => exact keepsDips_sampleEntering (by rw [hs]; rfl)
  | immersed => exact keepsDips_sampleImmersed (by rw [hs]; rfl)
  | withdrawing => exact keepsDips_sampleWithdrawing (by rw [hs]; rfl)
  | weighing => exact keepsDips_sampleWeighing hs
  | abandoned => exact keepsDips_sampleAbandoned hs

theorem SameDips.keepsDips {s t : State} (hs : SameDips s t) (hr : t.records = s.records) : KeepsDips s t :=
  hs.keeps (by rw [hr])

theorem Aside.keepsDips {s t : State} (h : Aside s t) : KeepsDips s t :=
  SameDips.keepsDips (.of_same h.contexts h.owners h.waiting) h.records

theorem PollOnly.keepsDips {s t : State} (h : PollOnly s t) : KeepsDips s t := by
  obtain ⟨l, n, u, b, -, rfl⟩ := h
  exact SameDips.keepsDips (.of_same rfl rfl rfl) rfl

/-- The in-bath updates change the figures of a dip together (R86, R87, R111). -/
theorem keepsDips_inBathUpdates (h : Hoist) (found : DipState) (s : State) : KeepsDips s (inBathUpdates h found s) := by
  unfold inBathUpdates
  split
  · simp only
    split
    · next pr f _ _ hb =>
      have dip : (s.contexts.get h).state.inDip = true ∧ (s.contexts.get h).state ≠ .tagged := by
        rw [inBath_iff] at hb
        simp only [List.mem_cons, List.not_mem_nil, or_false] at hb
        rcases hb with e | e | e <;> rw [e] <;> exact ⟨rfl, nofun⟩
      rw [modContexts_members]
      refine KeepsDips.after ((aside_setNoticeIf _ _ _).trans (aside_setNoticeIf _ _ _)).keepsDips ?_
      exact DipChange.rests (f := fun c => c.inBathUpdate pr f found) ⟨fun _ => rfl, fun _ => rfl, fun _ => rfl⟩ dip.1
        (fun _ => rfl) (fun _ => rfl) fun e => absurd e dip.2
    · exact .refl s
  · exact .refl s

theorem keepsDips_contextSample (h : Hoist) (s : State) : KeepsDips s (contextSample h s) := by
  refine KeepsDips.after (syncPollMode_pollOnly _).keepsDips ?_
  refine KeepsDips.after (keepsDips_inBathUpdates h _ _) ?_
  exact (keepsDips_markOverload h s).trans (keepsDips_transitionTest h _)

theorem keepsDips_drainExpired {h : Hoist} {s : State} (hd : (s.contexts.get h).state = .draining) :
    KeepsDips s (drainExpired h s) := by
  unfold drainExpired
  split
  · exact (keepsDips_enterWeighing _ (by rw [hd]; rfl)).trans (syncPollMode_pollOnly _).keepsDips
  · exact .refl s

theorem keepsDips_weighExpired {h : Hoist} {s : State} (hw : (s.contexts.get h).state = .weighing) :
    KeepsDips s (weighExpired h s) := by
  unfold weighExpired
  split
  · refine KeepsDips.trans ?_ (syncPollMode_pollOnly _).keepsDips
    exact keepsDips_finishDip (closeUnweighed_accountsOnly ..).sameDips (closeUnweighed_length ..) hw
  · exact .refl s

/-- A context as the abort of its dip leaves it (R92). -/
def Context.aborted (c : Context) : Context := { c with
  state := .abandoned, drainTimer := none, grounded := false, reserved := false
  flags := { c.flags with noContact := abortsUntouched c } }

/-- An aborted dip keeps its zones, and its place is its record's (R92, R149). -/
theorem keepsDips_dipAborted {h : Hoist} {s : State} (tg : TagArgs) (hk : (s.contexts.get h).state.overKettle = true) :
    KeepsDips s (dipAborted h tg s) := by
  have zones : (s.contexts.get h).state.ownsZones = true := by simp [DipState.ownsZones, hk]
  obtain ⟨dip, tagged, waits⟩ := DipState.inDip_of_ownsZones zones (by intro e; rw [e] at hk; cases hk)
  have aborts : Moves h Context.aborted .abandoned s := {
    tag := fun _ => rfl, pair := fun _ => rfl, figures := fun _ => rfl
    start := dip, stop := .inr rfl, state := fun _ _ => rfl, placed := fun _ _ _ => rfl
    pending := fun e => absurd e tagged, zones := fun _ => .inl zones, waits := fun e => absurd e waits }
  have closed : SameDips (changeDip h Context.aborted s) (dipAborted h tg s) := .of_same rfl rfl rfl
  refine ⟨aborts.keepsLaw.trans closed.keepsLaw, fun hl => ?_⟩
  have given := hl.reservedPlaces_given_up (h := h) (f := Context.aborted) fun _ _ => rfl
  have reserved : (s.contexts.get h).reserved = true := by
    rw [(reservedMatchesState_iff _).1 (hl.placed h), dip, bne_iff_ne.2 tagged]
    rfl
  have same : reservedPlaces (dipAborted h tg s) = reservedPlaces (changeDip h Context.aborted s) := rfl
  have records : (dipAborted h tg s).records.length = s.records.length + 1 := by simp [dipAborted]
  rw [reserved] at given
  simp only [placesTaken, records, same, bit, if_true] at given ⊢
  omega

theorem keepsDips_abortDip {h : Hoist} {s : State} (hk : (s.contexts.get h).state.overKettle = true) :
    KeepsDips s (abortDip h s) := by
  cases ht : (s.contexts.get h).tag with
  | none =>
    rw [abortDip, ht]
    exact .refl s
  | some tg => exact (keepsDips_dipAborted tg hk).trans (abortDip_pollOnly ht).keepsDips

/-! ## The requests that change a context -/

/-- A maintenance permit bears on no dip (R71). -/
theorem sameDips_permit (h : Hoist) (b : Bool) (s : State) :
    SameDips s (s.setContext h { s.contexts.get h with permit := b }) := by
  refine ⟨fun x => ?_, fun x => ?_, rfl, rfl⟩ <;> rw [State.setContext_get] <;> split
  · next e => rw [e]; rfl
  · rfl
  · next e => rw [e]
  · rfl

/-- WEIGH JIG takes a context from IDLE to JIG_WEIGH (R94). -/
theorem keepsDips_weighJigRule (n m : Nat) (s : State) : KeepsDips s (weighJigRule n m s).state := by
  unfold weighJigRule
  split
  · exact .refl s
  · simp only
    split
    · exact .refl s
    · next hi =>
      repeat' split
      case isFalse.isFalse.isFalse => exact keepsDips_untagged _ (.inl (not_not.1 hi)) (.inr rfl)
      all_goals exact .refl s

/-- What a pair's second TAG LOAD has been checked against: the tag that waits names the same load (R110). -/
theorem tagCheck_sameLoad {h : Hoist} {x t : TagArgs} {s : State} (hc : tagCheck h x s = none) (h0 : x.token ≠ 0)
    (hp : (s.contexts.get h.other).pair = .partnerPending) (ht : (s.contexts.get h.other).tag = some t) :
    sameLoad x t = true := by
  have checks := List.findSome?_eq_none_iff.1 hc
  simp only [List.forall_mem_cons, id] at checks
  obtain ⟨-, -, -, -, -, -, -, -, -, pair, -⟩ := checks
  simp only [tagPairCheck, h0, if_false, hp, ht] at pair
  split at pair
  · next e => exact e.2
  · cases pair

/-- The contexts of a pair as its second TAG LOAD forms it (R78, R111, log 27). -/
def pairedContexts (h : Hoist) (x : TagArgs) (s : State) : PerHoist Context :=
  (s.contexts.set h { (s.contexts.get h).tagged x .paired with flags := (s.contexts.get h.other).flags }).set h.other
    { s.contexts.get h.other with pair := .paired }

theorem pairedContexts_get (h : Hoist) (x : TagArgs) (s : State) :
    (pairedContexts h x s).get h
      = { (s.contexts.get h).tagged x .paired with flags := (s.contexts.get h.other).flags }
    ∧ (pairedContexts h x s).get h.other = { s.contexts.get h.other with pair := .paired } := by
  cases h <;> exact ⟨rfl, rfl⟩

/-- What holds of a hoist and of the other holds of both. -/
theorem forall_hoist {P : Hoist → Prop} {h : Hoist} (own : P h) (other : P h.other) (x : Hoist) : P x := by
  by_cases e : x = h
  · exact e ▸ own
  · exact Hoist.eq_other_of_ne e ▸ other

/-- The formation of a pair: both TAGGED, with one load and the same figures (R110, R111). -/
theorem keepsDips_pairing {h : Hoist} {x t : TagArgs} {s : State} (hi : (s.contexts.get h).state = .idle)
    (hp : (s.contexts.get h.other).pair = .partnerPending) (ht : (s.contexts.get h.other).tag = some t)
    (hx : sameLoad x t = true) : KeepsDips s { s with contexts := pairedContexts h x s } := by
  obtain ⟨own, other⟩ := pairedContexts_get h x s
  refine .of_law fun hl => ?_
  have tagged := hl.pending_tagged hp
  have placed : (s.contexts.get h.other).reserved = false := by
    rw [(reservedMatchesState_iff _).1 (hl.placed _), tagged]
    rfl
  have load : sameLoadTags (some x) (some t) = true := hx
  refine ⟨⟨fun _ => ?_, fun _ ha => ⟨fun _ => ?_, fun y hy => ?_⟩⟩, fun _ => ?_⟩
  · refine hl.of_contexts (forall_hoist (h := h) ?_ ?_) (forall_hoist (h := h) ?_ ?_) (forall_hoist (h := h) ?_ ?_)
      (forall_hoist (h := h) ?_ ?_) (forall_hoist (h := h) ?_ ?_)
    · rw [own]; rfl
    · rw [other]; exact hl.matched h.other
    · rw [own]; rfl
    · rw [other]; exact hl.placed h.other
    · rw [own, other, pairLinkOk_iff]
      exact ⟨nofun, fun _ => ⟨rfl, fun _ => ⟨rfl, tagged, ht ▸ load⟩⟩⟩
    · rw [Hoist.other_other, own, other, pairLinkOk_iff]
      exact ⟨nofun, fun _ => ⟨by simp [ht], fun _ => ⟨rfl, tagged.symm, ht ▸ sameLoadTags_comm _ _ ▸ load⟩⟩⟩
    · rw [own]; exact nofun
    · rw [other]
      intro e
      simp [tagged, DipState.ownsZones, DipState.overKettle] at e
    · exact fun e => nomatch hi.symm.trans e
    · exact fun e => nomatch tagged.symm.trans e
  · have pending := ha.pending _ hp
    have figures : ((pairedContexts h x s).get h).figures = ((pairedContexts h x s).get h.other).figures := by
      rw [own, other]
      have joined := congrArg (fun c : Context => { c with pair := .paired }) pending
      refine Eq.trans ?_ joined.symm
      have flags : (s.contexts.get h.other).flags
          = { DipFlags.clear with overloadSeen := (s.contexts.get h.other).flags.overloadSeen } :=
        (congrArg Context.flags pending :)
      exact congrArg (fun x : DipFlags => { Context.initial with state := .tagged, pair := .paired, flags := x }) flags
    cases h
    · exact figures
    · exact figures.symm
  · revert hy
    refine forall_hoist (h := h) (P := fun y => ((pairedContexts h x s).get y).pair = .partnerPending →
      ((pairedContexts h x s).get y).figures = pendingFigures ((pairedContexts h x s).get y).flags.overloadSeen) ?_ ?_ y
    · rw [own]; exact nofun
    · rw [other]; exact nofun
  · have idle := (hl.untagged (.inl hi)).2.2
    have before := reservedPlaces_of_not_reserved idle
    have after := reservedPlaces_of_not_reserved (h := h) (s := { s with contexts := pairedContexts h x s })
      (by show ((pairedContexts h x s).get h).reserved = false; rw [own]; rfl)
    have same : bit ((pairedContexts h x s).get h.other).reserved = bit (s.contexts.get h.other).reserved := by
      rw [other]
    simp only [placesTaken, before, after, same]
    omega

/-- An accepted TAG LOAD: alone, waiting for a partner, or forming the pair (R78, R110). -/
theorem keepsDips_takeTag {h : Hoist} {x : TagArgs} {s : State} (hi : (s.contexts.get h).state = .idle)
    (hx : x.token ≠ 0 → (s.contexts.get h.other).pair = .partnerPending → ∀ t, (s.contexts.get h.other).tag = some t →
      sameLoad x t = true) : KeepsDips s (takeTag h x s) := by
  have alone {link : PairLink} (hn : link ≠ .paired) :
      KeepsDips s (s.setContext h ((s.contexts.get h).tagged x link)) :=
    keepsDips_setContext (fun hl => hl.alone_of_untagged (.inl hi)) (fun _ => free_tagged _ x hn) (.inl (by simp [hi]))
  unfold takeTag
  simp only
  split
  · exact alone nofun
  · next h0 =>
    split
    · next hp =>
      refine .of_law fun hl => ?_
      obtain ⟨t, ht⟩ := Option.isSome_iff_exists.1 (hl.tagged (h := h.other)
        (by rw [hl.pending_tagged hp]; exact nofun) (by rw [hl.pending_tagged hp]; exact nofun))
      exact keepsDips_pairing hi hp ht (hx h0 hp t ht)
    · exact alone nofun

theorem keepsDips_tagLoadRule (x : TagArgs) (s : State) : KeepsDips s (tagLoadRule x s).state := by
  unfold tagLoadRule
  split
  · exact .refl s
  · next h _ =>
    have permit := (sameDips_permit h false s).keepsDips rfl
    split
    · exact permit
    · next hc =>
      have own : ((clearPermit h s).contexts.get h).state = .idle :=
        ((sameDips_permit h false s).state h).trans (tagCheck_none hc).1
      have other : (clearPermit h s).contexts.get h.other = s.contexts.get h.other :=
        (State.setContext_get ..).trans (if_neg (Hoist.other_ne h))
      refine permit.trans (keepsDips_takeTag own fun h0 hp t ht => ?_)
      rw [show (s.setContext h _).contexts.get h.other = _ from other] at hp ht
      exact tagCheck_sameLoad hc h0 hp ht

/-- CANCEL LOAD takes a dip back, and leaves a pair's other context waiting for a partner (R70, R114). -/
theorem keepsDips_cancelTag {h : Hoist} {s : State} (hs : (s.contexts.get h).state ∈ [.tagged, .ready, .waitingZone]) :
    KeepsDips s (cancelTag h s) := by
  have live : (s.contexts.get h).state ≠ .abandoned := by
    intro e
    simp [e] at hs
  refine .of_law fun hl => ?_
  let w := if (s.contexts.get h).state = .waitingZone then none else s.waiting
  have withdrawn : KeepsDips s { s with waiting := w } := by
    by_cases e : (s.contexts.get h).state = .waitingZone
    · rw [show w = none from if_pos e]
      exact keepsDips_noWaiting s
    · rw [show w = s.waiting from if_neg e]
      exact .refl s
  have unwaiting : (s.contexts.get h).state ≠ .waitingZone ∨ w = none :=
    (eq_or_ne (s.contexts.get h).state .waitingZone).symm.imp_right fun e => if_pos e
  by_cases hp : (s.contexts.get h).pair = .paired ∧ (s.contexts.get h.other).pair = .paired
  · have hj : joint { s with waiting := w } = true := (hl.partner hp.1 live).1
    have ended := keepsDips_freed (h := h) (s := { s with waiting := w }) (fun _ _ _ => free_toIdle _) unwaiting
    have pair : changeDip h Context.toIdle { s with waiting := w } = { s with
        waiting := w
        contexts := (s.contexts.set h (s.contexts.get h).toIdle).set h.other (s.contexts.get h.other).toIdle } := by
      unfold changeDip sharesDip
      rw [hj]
      cases h <;> rfl
    obtain ⟨t, ht⟩ := Option.isSome_iff_exists.1 ((((pairLinkOk_iff _ _).1 (hl.linked h.other)).2 hp.2).1)
    rw [pair] at ended
    have orphaned := keepsDips_setContext (h := h.other) (c := (s.contexts.get h.other).tagged t .partnerPending)
      (s := { s with
        waiting := w
        contexts := (s.contexts.set h (s.contexts.get h).toIdle).set h.other (s.contexts.get h.other).toIdle })
      (fun hl' => hl'.alone_of_untagged (h := h.other) (.inl (by simp [Context.toIdle, Context.initial])))
      (fun _ => free_tagged _ t nofun) (.inl (by simp [Context.toIdle, Context.initial]))
    rw [cancelTag_paired hp.1 hp.2 (by rw [ht]; rfl), ht]
    have kept := (withdrawn.trans ended).trans orphaned
    rwa [State.setContext, PerHoist.set_set] at kept
  · have hj : joint s = false := by
      rw [← Bool.not_eq_true, joint_iff]
      exact fun hj => hp ⟨(hj h).1, (hj h.other).1⟩
    rw [cancelTag_alone (not_and_or.1 hp)]
    exact withdrawn.trans (keepsDips_setContext (s := { s with waiting := w }) (fun _ => hj) (fun _ => free_toIdle _)
      unwaiting)

theorem keepsDips_cancelLoadRule (n : Nat) (s : State) : KeepsDips s (cancelLoadRule n s).state := by
  unfold cancelLoadRule
  split
  · exact .refl s
  · next h _ =>
    cases hs : (s.contexts.get h).state with
    | tagged | ready | waitingZone => exact keepsDips_cancelTag (by simp [hs])
    | idle | lowering | entering | immersed | withdrawing | draining | weighing | abandoned | jigWeigh => exact .refl s

/-! ## The other rules -/

/-- A rule that leaves the contexts, the zones and the waiting claim, and adds no record. -/
structure Leaves (s t : State) : Prop where
  contexts : t.contexts = s.contexts
  owners : t.owners = s.owners
  waiting : t.waiting = s.waiting
  records : t.records.length ≤ s.records.length

theorem Leaves.keepsDips {s t : State} (h : Leaves s t) : KeepsDips s t :=
  SameDips.keeps (.of_same h.contexts h.owners h.waiting) h.records

theorem Leaves.refl (s : State) : Leaves s s := ⟨rfl, rfl, rfl, Nat.le_refl _⟩

theorem Aside.leaves {s t : State} (h : Aside s t) : Leaves s t :=
  ⟨h.contexts, h.owners, h.waiting, Nat.le_of_eq (congrArg List.length h.records)⟩

theorem Leaves.trans {s t u : State} (h : Leaves s t) (h' : Leaves t u) : Leaves s u :=
  ⟨h'.contexts.trans h.contexts, h'.owners.trans h.owners, h'.waiting.trans h.waiting, h'.records.trans h.records⟩

theorem leaves_readPage {s t : State} (page : Nat) (items : List Item) (h : Leaves s t) :
    Leaves s (readPage page items s t).state := by
  unfold readPage
  split
  · exact h
  · exact .refl s

/-- A change of other parts. -/
theorem Leaves.of_same {s t : State} (hc : t.contexts = s.contexts) (ho : t.owners = s.owners)
    (hw : t.waiting = s.waiting) (hr : t.records = s.records) : Leaves s t := ⟨hc, ho, hw, Nat.le_of_eq (by rw [hr])⟩

/-- A check before the rest of a rule. -/
theorem leaves_check {c : Prop} [Decidable c] {st : Status} {s : State} {r : Answer} (h : Leaves s r.state) :
    Leaves s (if c then refuse st s else r).state := by
  split
  · exact .refl s
  · exact h

theorem leaves_takeRecordRule (s : State) : Leaves s (takeRecordRule s).state := by
  unfold takeRecordRule
  split
  · exact .refl s
  · next hr =>
    refine ⟨rfl, rfl, rfl, ?_⟩
    rw [hr]
    exact Nat.le_succ _

theorem leaves_loadBathSettingsRule (x : BathArgs) (s : State) : Leaves s (loadBathSettingsRule x s).state := by
  refine leaves_check (leaves_check (leaves_check ?_))
  refine Leaves.trans ?_ ((aside_redateFigures _ _).trans (aside_changeBathStation _ _ _)).leaves
  exact .of_same rfl rfl rfl rfl

theorem leaves_removalRule (mass : Nat) (s : State) : Leaves s (removalRule mass s).state := by
  refine leaves_check (Leaves.trans ?_ (aside_setNoticeIf _ _ _).leaves)
  exact .of_same rfl rfl rfl rfl

/-- Every owning rule but the four that change a context. Those cited by no lemma above write tables, ports, channels,
motion records or notices, or nothing. -/
theorem ruleOf_leaves {i : Instr} (ht : ∀ q x, i ≠ .tagLoad q x) (hc : ∀ q n, i ≠ .cancelLoad q n)
    (hj : ∀ q n m, i ≠ .weighJig q n m) (hp : ∀ q n v, i ≠ .setMaintenancePermit q n v) (s : State) :
    Leaves s (ruleOf i s).state := by
  cases i with
  | tagLoad q x => exact absurd rfl (ht q x)
  | cancelLoad q n => exact absurd rfl (hc q n)
  | weighJig q n m => exact absurd rfl (hj q n m)
  | setMaintenancePermit q n v => exact absurd rfl (hp q n v)
  | takeRecord q => exact leaves_takeRecordRule s
  | loadBathSettings q x => exact leaves_loadBathSettingsRule x s
  | drossRemoved q mass | ashRemoved q mass => exact leaves_removalRule mass s
  | readMotion | readZones | readBath | readBalance | readQueue | readStatus =>
    simp only [ruleOf, readMotionRule, readZonesRule, readBathRule, readBalanceRule, readQueueRule, readStatusRule]
    exact leaves_readPage _ _ (.of_same rfl rfl rfl rfl)
  | readPortStatus | readProfile | readTrap | readWeight | readJig | readContext | readJob =>
    simp only [ruleOf, readPortStatusRule, readProfileRule, readTrapRule, readWeightRule, readJigRule, readContextRule,
      readJobRule, readPage]
    repeat' split
    all_goals exact .of_same rfl rfl rfl rfl
  | setAddress | saveTables | loadWindows | setPortTiming | loadTrap | loadHoistSettings | setOperatorCap =>
    simp only [ruleOf, setAddressRule, loadWindowsRule, setPortTimingRule, loadTrapRule, loadHoistSettingsRule,
      setOperatorCapRule]
    repeat' split
    all_goals exact .of_same rfl rfl rfl rfl
  | loadCalibration | lockCalibration | rezeroHook | loadProfile | removeProfile | loadJig | withdrawJig | returnJig
  | removeJig =>
    simp only [ruleOf, loadCalibrationRule, lockCalibrationRule, rezeroHookRule, loadProfileRule, removeProfileRule,
      loadJigRule, withdrawJigRule, returnJigRule, removeJigRule]
    repeat' split
    all_goals exact .of_same rfl rfl rfl rfl
  | loadZoneMap | setDrossCeiling | setZoneService | openJob | setJobBand | resumeJob | closeJob | releaseJob =>
    simp only [ruleOf, loadZoneMapRule, setDrossCeilingRule, setZoneServiceRule, openJobRule, setJobBandRule,
      resumeJobRule, closeJobRule, releaseJobRule]
    repeat' split
    all_goals exact .of_same rfl rfl rfl rfl
  | zincAdded | setBalance | setBalanceToLevel | peekRecord | readNotices | clearNotices | setNoticeLevels =>
    simp only [ruleOf, zincAddedRule, setBalanceRule, setBalanceToLevelRule, peekRecordRule, readNoticesRule,
      clearNoticesRule, setNoticeLevelsRule]
    repeat' split
    all_goals exact .of_same rfl rfl rfl rfl
  | _ => exact .refl s

theorem keepsDips_setMaintenancePermitRule (n v : Nat) (s : State) :
    KeepsDips s (setMaintenancePermitRule n v s).state := by
  have permit (h : Hoist) (b : Bool) := (sameDips_permit h b s).keepsDips rfl
  unfold setMaintenancePermitRule
  split
  · split
    · exact permit _ true
    · exact .refl s
  · exact permit _ false
  · exact .refl s

theorem keepsDips_ruleOf (i : Instr) (s : State) : KeepsDips s (ruleOf i s).state := by
  by_cases ht : ∃ q x, i = .tagLoad q x
  · obtain ⟨q, x, rfl⟩ := ht
    exact keepsDips_tagLoadRule x s
  by_cases hc : ∃ q n, i = .cancelLoad q n
  · obtain ⟨q, n, rfl⟩ := hc
    exact keepsDips_cancelLoadRule n s
  by_cases hj : ∃ q n m, i = .weighJig q n m
  · obtain ⟨q, n, m, rfl⟩ := hj
    exact keepsDips_weighJigRule n m s
  by_cases hp : ∃ q n v, i = .setMaintenancePermit q n v
  · obtain ⟨q, n, v, rfl⟩ := hp
    exact keepsDips_setMaintenancePermitRule n v s
  push Not at ht hc hj hp
  exact (ruleOf_leaves ht hc hj hp s).keepsDips

/-! ## Every event -/

/-- At start-up both contexts are in IDLE, no zone is owned and no record is held (R100, R105, R177). -/
theorem keepsDips_startState (image : Option StoredImage) (cause : RestartCause) (service : Bool) (waiting : List Instr)
    (s : State) : KeepsDips s (startState image cause service waiting) := by
  have initial (h : Hoist) : (startState image cause service waiting).contexts.get h = .initial := by cases h <;> rfl
  refine ⟨⟨fun _ => ⟨fun h => ?_, fun h => ?_, fun h => ?_, fun h => ?_, nofun⟩, fun _ _ => ⟨nofun, fun h => ?_⟩⟩,
    fun _ => Nat.zero_le _⟩
  case refine_3 => rw [initial, initial]; rfl
  all_goals rw [initial]
  · rfl
  · rfl
  · exact nofun
  · exact nofun

theorem DipEvent.keepsDips {s t : State} (h : DipEvent s t) : KeepsDips s t := by
  cases h with
  | rest => exact .refl s
  | sample h => exact keepsDips_contextSample h s
  | abort h _ hk => exact keepsDips_abortDip hk
  | drain h _ hd => exact keepsDips_drainExpired hd
  | weigh h _ hw => exact keepsDips_weighExpired hw
  | jigWeigh h _ hj => exact keepsDips_jigWeighExpired hj
  | request i => exact keepsDips_ruleOf i s
  | restart => exact keepsDips_startState _ _ _ _ s

theorem step_keepsDips {s t : State} (h : step s = .next t) : KeepsDips s t := by
  obtain ⟨u, v, hu, he, hv⟩ := step_oneEvent h
  exact (hu.keepsDips.trans he.keepsDips).trans hv.keepsDips

/-- Settles O56: by the one event of a step, and the law of the dips that `dipsOk` states. -/
theorem everyStepKeepsTheDips : Obligations.EveryStepKeepsTheDips := by
  refine ⟨fun s t hd h => ?_, fun s t hd ha h => ?_⟩
  · obtain ⟨law, places⟩ := (dipsOk_iff s).1 hd
    have taken := (step_keepsDips h).places law
    exact (dipsOk_iff t).2 ⟨(step_keepsDips h).law law, by omega⟩
  · exact (pairsAlike_iff t).2 ((step_keepsDips h).alike ((dipsOk_iff s).1 hd).1 ((pairsAlike_iff s).1 ha))

end Sys2Proof.Machine
end

section
/-! Jig weighing (R94, R95), and the bath's timers with the changes of the poll mode (R120, R121, R123, R125). -/

namespace Sys2Proof.Machine

/-! ## Timers that run out (R77) -/

theorem timerDue_iff (st : DipState) (timer : Context → Option Nat) (h : Hoist) (s : State) :
    timerDue st timer h s = true ↔ (s.contexts.get h).state = st ∧ reachedBy (timer (s.contexts.get h)) s.now := by
  rw [timerDue, Bool.and_eq_true, beq_iff_eq, due_iff]

/-- A context's timer that has not run out, or belongs to another state, does nothing (log 3). -/
theorem timerDue_false {st : DipState} {timer : Context → Option Nat} {h : Hoist} {s : State}
    (hn : (s.contexts.get h).state ≠ st ∨ ¬ reachedBy (timer (s.contexts.get h)) s.now) :
    timerDue st timer h s = false := by
  rw [← Bool.not_eq_true, timerDue_iff, not_and_or]
  exact hn

/-! ## Jig weighing (R94, R95) -/

theorem exec_weighJig (q : Req) (h : Hoist) (n : Nat) (s : State) : exec (.weighJig q h.num n) s = .next (checked q 0xA5
    [(decide ((s.contexts.get h).state ≠ .idle), .busy), ((s.tables.calibration.get h).isNone, .notCalibrated),
     ((findJig n s).isNone, .notFound), (jigInUse n s, .inUse)]
    [] s { s with contexts := s.contexts.set h { s.contexts.get h with
      state := .jigWeigh, jigWeigh := ⟨n, .inProgress, 0, some (s.now + 30000)⟩ } }) := by
  refine manage_answerOf (rule := weighJigRule h.num n) ?_
  rw [answerOf_decide, answerOf_cons, answerOf_cons, answerOf_cons, answerOf_nil]
  simp only [weighJigRule, hoistOf_num, jigUsers_isEmpty, Bool.not_not]
  rfl

/-- A context in JIG_WEIGH is in no dip, so a sample makes its test and updates nothing more (R76, R95). -/
theorem contextSample_jigWeigh {h : Hoist} {s : State} (hj : (s.contexts.get h).state = .jigWeigh)
    (ho : ((sampleJigWeigh h s).contexts.get h).state ∉ [.entering, .immersed, .withdrawing])
    (hp : pollModeOk (sampleJigWeigh h s) = true) : contextSample h s = sampleJigWeigh h s := by
  have unmarked : markOverload h s = s := by
    rw [markOverload_eq, hj]
    exact if_neg (by simp)
  have tested : transitionTest h s = sampleJigWeigh h s := by simp only [transitionTest, hj]
  rw [contextSample, unmarked, tested, inBathUpdates_outside _ ho, syncPollMode_of_ok _ hp]

theorem sampleJigWeigh_completes {h : Hoist} {f : Int} {s : State} (hf : (s.channels.get h).filtered = some f)
    (hs : channelSettled h s = true) (hm : channelStill h s = true) :
    sampleJigWeigh h s = completeJigWeigh h f s := by simp only [sampleJigWeigh, hf, hs, hm, Bool.and_self, if_true]

theorem sampleJigWeigh_waits {h : Hoist} {s : State} (hn : (s.channels.get h).filtered = none
    ∨ channelSettled h s = false ∨ channelStill h s = false) : sampleJigWeigh h s = s := by
  unfold sampleJigWeigh
  split
  · next e =>
    refine if_neg fun hc => ?_
    rw [Bool.and_eq_true] at hc
    rcases hn with hn | hn | hn
    · cases hn.symm.trans e
    · cases hn.symm.trans hc.1
    · cases hn.symm.trans hc.2
  · rfl

/-- Settles O28: the request by its checks, and a sample or an expiry by the test of JIG_WEIGH. -/
theorem jigWeighing : Obligations.JigWeighing := by
  refine ⟨exec_weighJig, fun q m n s hm => ?_, fun h f s hp hj hf hs hm => ?_, fun h s hp hj hn => ?_,
    fun h s hj hd => ?_, fun h s hn => ?_⟩
  · exact manage_refused q 0xA5 (weighJigRule m n) _ s (by simp only [weighJigRule, hoistOf_none m hm])
  · have done := sampleJigWeigh_completes hf hs hm
    have idle : ((completeJigWeigh h f s).contexts.get h).state = .idle := by simp [completeJigWeigh]
    have mode : pollModeOk (completeJigWeigh h f s) = true :=
      pollModeOk_setContext (s := modJig _ _ s) hp (by simp [modJig, hj, DipState.overKettle])
    rw [contextSample_jigWeigh hj (by simp [done, idle]) (done ▸ mode), done]
    rfl
  · have still := sampleJigWeigh_waits hn
    rw [contextSample_jigWeigh hj (by simp [still, hj]) (still.symm ▸ hp), still]
  · refine congrArg Host.Outcome.next (if_pos ?_)
    exact (timerDue_iff .jigWeigh (fun c => c.jigWeigh.timer) h s.begin).2 ⟨hj, hd⟩
  · refine congrArg Host.Outcome.next (if_neg ?_)
    simp [timerDue_false (timer := fun c => c.jigWeigh.timer) (s := s.begin) hn]

/-! ## A poll that falls due (R120) -/

theorem pollDue_waits {a : Nat} {s : State} (ha : s.tables.bath.station = some a)
    (hs : s.ports.k.slot.isSome = true ∨ s.ports.k.state = .restarting) :
    pollDue s = { s with ports := { s.ports with k := { s.ports.k with pending := some .poll } } } := by
  have due : s.tables.bath.station.isSome = true := by rw [ha]; rfl
  rw [pollDue, if_pos due, generatedDue_waits (p := .k) hs]
  rfl

/-! ## The bath's timers (R120, R125) -/

/-- The poll timer stopped. -/
def pollStopped (s : State) : State := { s with bath := { s.bath with pollTimer := none } }

theorem exec_pollTimerExpiry {s : State} (hd : reachedBy s.bath.pollTimer s.now) :
    exec .pollTimerExpiry s = .next (pollDue (pollStopped s.begin)) :=
  congrArg Host.Outcome.next (if_pos ((due_iff _ s.begin).2 hd))

theorem setNoticeIf_eq (b : Bool) (n : Notice) (s : State) :
    setNoticeIf b n s = { s with notices := s.notices.set n (s.notices.get n || b) } := by
  cases b
  · have same : s.notices.set n (s.notices.get n || false) = s.notices := by
      cases n <;> simp [NoticeFlags.set, NoticeFlags.get]
    rw [same]
    rfl
  · rw [Bool.or_true]
    rfl

theorem exec_staleExpiry {fig : BathFigure} {f : Figure} {s : State} (hf : s.bath.figure fig = some f)
    (hd : reachedBy f.deadline s.now) : exec (.staleExpiry fig) s = .next { s with
      sent := []
      bath := { s.bath.setFigure fig (some { f with deadline := none }) with hold := some .stale }
      notices := { s.notices with
        bathHold := s.notices.bathHold
          || (s.bath.setFigure fig (some { f with deadline := none })).hold.isNone } } := by
  have due : due ((s.bath.figure fig).bind Figure.deadline) s.begin = true := by
    rw [hf]
    exact (due_iff _ s.begin).2 hd
  refine congrArg Host.Outcome.next ((if_pos due).trans ?_)
  simp only [staleExpired, holdStale, State.begin_bath, hf, Option.map_some, setNoticeIf_eq]
  rfl

/-! ## The changes of the poll mode (R121) -/

theorem syncPollMode_inLine {s : State} (h : bathActive s = true ↔ s.bath.mode = .continuous) : syncPollMode s = s := by
  refine syncPollMode_of_ok s ?_
  rw [pollModeOk, beq_iff_eq, Bool.eq_iff_iff, h, beq_iff_eq]

theorem syncPollMode_continuous {s : State} (hb : bathActive s = true) (hm : s.bath.mode = .periodic) :
    syncPollMode s = pollDue { s with bath := { s.bath with mode := .continuous, pollTimer := none } } := by
  simp only [syncPollMode, hb, hm]
  rfl

/-- At the change to PERIODIC the timer stops where no station or a pending poll stands against a load. -/
theorem syncPollMode_stops {s : State} (hb : bathActive s = false) (hm : s.bath.mode = .continuous)
    (hn : s.tables.bath.station = none ∨ s.ports.k.pending.isSome = true) :
    syncPollMode s = { s with bath := { s.bath with mode := .periodic, pollTimer := none } } := by
  simp only [syncPollMode, hb, hm, toPeriodic]
  split
  · rfl
  · next hs => exact if_pos (hn.resolve_left fun e => hs (by simp [e]))

/-- Else it is loaded for one poll interval after the last poll, where that is to come. -/
theorem syncPollMode_loads {s : State} {l : Nat} (hb : bathActive s = false) (hm : s.bath.mode = .continuous)
    (ha : s.tables.bath.station.isSome = true) (hp : s.ports.k.pending = none) (hl : s.bath.lastPoll = some l)
    (ht : s.now < l + s.tables.bath.pollInterval * 1000) : syncPollMode s = { s with bath := { s.bath with
      mode := .periodic, pollTimer := some (l + s.tables.bath.pollInterval * 1000) } } := by
  obtain ⟨a, ha⟩ := Option.isSome_iff_exists.1 ha
  simp only [syncPollMode, hb, hm, toPeriodic]
  simp [ha, hp, hl, ht, State.setBath]

/-- And a poll falls due where that moment has come, or no poll has been sent (log 21). -/
theorem syncPollMode_polls {s : State} (hb : bathActive s = false) (hm : s.bath.mode = .continuous)
    (ha : s.tables.bath.station.isSome = true) (hp : s.ports.k.pending = none)
    (ht : ∀ l, s.bath.lastPoll = some l → l + s.tables.bath.pollInterval * 1000 ≤ s.now) : syncPollMode s
      = pollDue { s with bath := { s.bath with mode := .periodic, pollTimer := none } } := by
  obtain ⟨a, ha⟩ := Option.isSome_iff_exists.1 ha
  simp only [syncPollMode, hb, hm, toPeriodic]
  cases hl : s.bath.lastPoll with
  | none => simp [ha, hp, State.setBath]
  | some l => simp [ha, hp, Nat.not_lt.2 (ht l hl), State.setBath]

/-- Settles O39: the expiries and the changes of mode come down to `pollDue`, by its three equations. -/
theorem bathTimersExpireAndThePollModeFollows : Obligations.BathTimersExpireAndThePollModeFollows := by
  refine ⟨fun s hd => ?_, fun s hn => ?_, fun fig s hn => ?_, fun f s => exec_staleExpiry (fig := .temperature),
    fun f s => exec_staleExpiry (fig := .level), fun s => syncPollMode_inLine, fun s hb hm => ?_, fun s hb hm => ?_⟩
  · rw [exec_pollTimerExpiry hd]
    refine ⟨fun ha => ?_, fun a ha => ⟨fun hs hu => ?_, fun hs => ?_⟩⟩
    · rw [pollDue_none (by exact ha)]
      rfl
    · rw [pollDue_sends (by exact ha) (by exact hs) (by exact hu), sendPoll_some a _ (by exact ha)]
      rfl
    · rw [pollDue_waits (by exact ha) (by exact hs)]
      rfl
  · exact congrArg Host.Outcome.next (if_neg fun e => hn ((due_iff _ s.begin).1 e))
  · exact congrArg Host.Outcome.next (if_neg fun e => hn ((due_iff _ s.begin).1 e))
  · rw [syncPollMode_continuous hb hm]
    refine ⟨fun ha => pollDue_none (by exact ha), fun a ha => ⟨fun hs hu => ?_, fun hs => ?_⟩⟩
    · rw [pollDue_sends (by exact ha) (by exact hs) (by exact hu), sendPoll_some a _ (by exact ha)]
      rfl
    · rw [pollDue_waits (by exact ha) (by exact hs)]
  · refine ⟨syncPollMode_stops hb hm, fun a ha hp => ?_⟩
    have station : s.tables.bath.station.isSome = true := by rw [ha]; rfl
    refine ⟨fun l => syncPollMode_loads hb hm station hp, fun ht => ?_⟩
    rw [syncPollMode_polls hb hm station hp ht]
    refine ⟨fun hs hu => ?_, fun hs => ?_⟩
    · rw [pollDue_sends (by exact ha) (by exact hs) (by exact hu), sendPoll_some a _ (by exact ha)]
      rfl
    · rw [pollDue_waits (by exact ha) (by exact hs)]

end Sys2Proof.Machine
end

section
/-! The transition tests of a dip from TAGGED to WITHDRAWING, as changes of its contexts (R79 to R85). -/

namespace Sys2Proof.Machine

/-! ## The tare capture (R79, R112) -/

theorem tagProfile_some {h : Hoist} {s : State} {tg : TagArgs} (ht : (s.contexts.get h).tag = some tg) :
    tagProfile h s = findProfile tg.profile s := by rw [tagProfile, ht]

theorem placeFree_iff (s : State) : placeFree s = true ↔ s.records.length + reservedPlaces s < 48 := by
  rw [placeFree, decide_eq_true_iff]
  rfl

/-- A settled and still sample of a tag that waits for no partner captures the tare, or finds no place free. -/
theorem sampleTagged_tests {h : Hoist} {s : State} {t : TagArgs} {pr : Profile} {f : Int}
    (ht : (s.contexts.get h).tag = some t) (hpr : findProfile t.profile s = some pr)
    (hp : (s.contexts.get h).pair ≠ .partnerPending) (hf : dipFiltered h s = some f) (hs : dipSettled h s = true)
    (hm : dipStill h s = true) : sampleTagged h s = if placeFree s then changeDip h
        (fun c => c.capture f (((findJig t.jig s).map Jig.tare).getD 0) pr.buoyancy s.now) s
      else changeDip h (fun c => { c with queueWait := true }) s := by
  have tests : ((s.contexts.get h).pair != .partnerPending && dipSettled h s && dipStill h s) = true := by
    rw [hs, hm, bne_iff_ne.2 hp]
    rfl
  simp only [sampleTagged, ht, tagProfile_some ht, hpr, hf, modContexts_members]
  exact if_pos tests

/-- At any other sample a TAGGED context stays as it is (log 11). -/
theorem sampleTagged_waits {h : Hoist} {s : State} (hn : (s.contexts.get h).pair = .partnerPending
    ∨ dipFiltered h s = none ∨ dipSettled h s = false ∨ dipStill h s = false) : sampleTagged h s = s := by
  unfold sampleTagged
  split
  · next hf =>
    refine if_neg fun hc => ?_
    rw [Bool.and_eq_true, Bool.and_eq_true, bne_iff_ne] at hc
    obtain ⟨⟨pair, settled⟩, still⟩ := hc
    rcases hn with e | e | e | e
    · exact pair e
    · cases e.symm.trans hf
    · cases e.symm.trans settled
    · cases e.symm.trans still
  · rfl

/-- Settles O29: the test of TAGGED by its two outcomes, and where it is not made. -/
theorem tareCaptureNeedsAFreePlace : Obligations.TareCaptureNeedsAFreePlace := by
  refine ⟨fun h s t j pr f hs ht hj hpr hp hf hd hm => ?_, fun h s hs hn => ?_⟩
  · rw [show transitionTest h s = sampleTagged h s by simp only [transitionTest, hs],
      sampleTagged_tests ht hpr hp hf hd hm, hj]
    refine ⟨fun free => if_pos ((placeFree_iff s).2 free), fun full => if_neg fun free => ?_⟩
    exact Nat.not_lt.2 full ((placeFree_iff s).1 free)
  · rw [show transitionTest h s = sampleTagged h s by simp only [transitionTest, hs], sampleTagged_waits hn]

/-! ## The height tests (R80 to R85) -/

section Heights

variable {h : Hoist} {s : State} {tg : TagArgs} {pr : Profile} {b t y : Int}

theorem sampleReady_tests (ht : (s.contexts.get h).tag = some tg) (hb : dipBottom h s = some b) : sampleReady h s
    = if b ≤ approachHeight s ∧ s.bath.hold = none then submitClaim (claimantOf h s) tg.firstZone tg.lastZone s
      else s := by
  simp only [sampleReady, ht, hb]

theorem sampleLowering_tests (hb : dipBottom h s = some b) (hy : surface s = some y) : sampleLowering h s
    = if b < y then changeDip h (fun c => { c with state := .entering, tEntry := some s.now, beenInBath := true }) s
      else s := by
  simp only [sampleLowering, hb, hy, modContexts_members]

theorem sampleEntering_tests (hpr : tagProfile h s = some pr) (hb : dipBottom h s = some b) (ht : dipTop h s = some t)
    (hy : surface s = some y) : sampleEntering h s
    = if t ≤ y - pr.coverDepth then enterImmersed (members h s) pr false s
      else if y ≤ b then enterDraining (members h s) pr true s else s := by
  simp only [sampleEntering, hpr, hb, ht, hy]

theorem sampleWithdrawing_tests (hpr : tagProfile h s = some pr) (hb : dipBottom h s = some b)
    (ht : dipTop h s = some t) (hy : surface s = some y) : sampleWithdrawing h s
    = if t ≤ y - pr.coverDepth then enterImmersed (members h s) pr true s
      else if y ≤ b then enterDraining (members h s) pr false s else s := by
  simp only [sampleWithdrawing, hpr, hb, ht, hy]

theorem sampleImmersed_tests (hpr : tagProfile h s = some pr) (ht : dipTop h s = some t) (hy : surface s = some y) :
    sampleImmersed h s = if y - pr.coverDepth < t then changeDip h (fun c => { c with
        state := .withdrawing, tWithdrawal := some s.now
        flags := { c.flags with
          shortImmersion := c.flags.shortImmersion || !(c.dwellDeadline.any (fun d => d ≤ s.now)) } }) s
      else s := by
  simp only [sampleImmersed, hpr, ht, hy, modContexts_members, dwellElapsed_eq]

/-- A height test without a bottom, a top or a surface is not passed (R76). -/
theorem transitionTest_blind (hn : (s.contexts.get h).state ∈ [.ready, .lowering, .entering, .immersed, .withdrawing]
      ∧ dipBottom h s = none
    ∨ (s.contexts.get h).state ∈ [.entering, .immersed, .withdrawing] ∧ dipTop h s = none
    ∨ (s.contexts.get h).state ∈ [.lowering, .entering, .immersed, .withdrawing] ∧ surface s = none) :
    transitionTest h s = s := by
  have top : dipBottom h s = none → dipTop h s = none := dipTop_none_of_dipBottom
  unfold transitionTest
  cases hs : (s.contexts.get h).state
  case ready =>
    simp only [sampleReady]
    split
    · next e => simp [hs, e] at hn
    · rfl
  case lowering =>
    simp only [sampleLowering]
    split
    · next e e' => simp [hs, e, e'] at hn
    · rfl
  case entering =>
    simp only [sampleEntering]
    split
    · next e e' e'' => simp [hs, e, e', e''] at hn
    · rfl
  case immersed =>
    simp only [sampleImmersed]
    split
    · next e e' =>
      rw [e] at top
      simp [hs, e, e'] at hn top
      exact absurd hn top
    · rfl
  case withdrawing =>
    simp only [sampleWithdrawing]
    split
    · next e e' e'' => simp [hs, e, e', e''] at hn
    · rfl
  all_goals simp [hs] at hn

end Heights

/-- With no drain dwell a dip passes through DRAINING into WEIGHING at one sample (R88). -/
theorem enterDraining_noDwell {h : Hoist} {pr : Profile} {short : Bool} {s : State}
    (ha : (s.contexts.get h).state ≠ .abandoned) (h0 : pr.drainDwell = 0) : enterDraining (members h s) pr short s
    = changeDip h (fun c => { c with
        state := .weighing, tDrain := some s.now, grounded := false, drainTimer := none
        weighTimer := some (s.now + pr.weighTimeout * 100)
        flags := { c.flags with shortImmersion := c.flags.shortImmersion || short } }) (restartSettle h s) := by
  have hj : joint (changeDip h (Context.drains pr short s.now) s) = joint s :=
    joint_changeDip ha (fun _ => rfl) (fun _ _ => nofun)
  have settled : restartSettle h (changeDip h (Context.drains pr short s.now) s)
      = changeDip h (Context.drains pr short s.now) (restartSettle h s) := by
    unfold restartSettle
    simp only [sharesDip_of_joint hj]
    rfl
  rw [enterDraining_members h pr short ha, if_pos h0, enterWeighing_members, settled]
  exact changeDip_changeDip h _ _ (restartSettle h s) hj

theorem enterDraining_dwells {h : Hoist} {pr : Profile} {short : Bool} {s : State}
    (ha : (s.contexts.get h).state ≠ .abandoned) (h0 : 0 < pr.drainDwell) :
    enterDraining (members h s) pr short s = changeDip h (Context.drains pr short s.now) s := by
  rw [enterDraining_members h pr short ha, if_neg (by omega)]

/-- Settles O30: each state's test by its equation, and the entries that it leads to. -/
theorem heightsDriveTheDipThroughTheBath : Obligations.HeightsDriveTheDipThroughTheBath := by
  refine ⟨fun h s tg b hs ht hb => ?_, fun h s b y hs hb hy => ?_, fun h s => ⟨?_, ?_, ?_⟩,
    fun h s tg pr b t y ht hpr hb htop hy => ?_⟩
  · rw [show transitionTest h s = sampleReady h s by simp only [transitionTest, hs], sampleReady_tests ht hb]
    rfl
  · rw [show transitionTest h s = sampleLowering h s by simp only [transitionTest, hs], sampleLowering_tests hb hy]
  · exact fun hs hb => transitionTest_blind (.inl ⟨hs, hb⟩)
  · exact fun hs ht => transitionTest_blind (.inr (.inl ⟨hs, ht⟩))
  · exact fun hs hy => transitionTest_blind (.inr (.inr ⟨hs, hy⟩))
  · have profile : tagProfile h s = some pr := (tagProfile_some ht).trans hpr
    refine ⟨fun hs => ?_, fun hs => ?_, fun hs => ?_⟩
    · have live : (s.contexts.get h).state ≠ .abandoned := by simp [hs]
      rw [show transitionTest h s = sampleEntering h s by simp only [transitionTest, hs],
        sampleEntering_tests profile hb htop hy]
      refine ⟨fun covered => ?_, fun high low => ?_, fun high out h0 => ?_, fun high out h0 => ?_⟩
      · rw [if_pos covered, enterImmersed_members]
        exact changeDip_congr fun x _ => by simp only [Context.immerses, Bool.or_false]
      · rw [if_neg (by omega), if_neg (by omega)]
      · rw [if_neg (by omega), if_pos out, enterDraining_dwells live h0]
        exact changeDip_congr fun x _ => by simp only [Context.drains, Bool.or_true]
      · rw [if_neg (by omega), if_pos out, enterDraining_noDwell live h0]
        simp only [Bool.or_true]
    · rw [show transitionTest h s = sampleImmersed h s by simp only [transitionTest, hs],
        sampleImmersed_tests profile htop hy]
    · have live : (s.contexts.get h).state ≠ .abandoned := by simp [hs]
      rw [show transitionTest h s = sampleWithdrawing h s by simp only [transitionTest, hs],
        sampleWithdrawing_tests profile hb htop hy]
      refine ⟨fun covered again => ?_, fun high low => ?_, fun high out h0 => ?_, fun high out h0 => ?_⟩
      · rw [if_pos covered, enterImmersed_members]
        refine changeDip_congr fun x hx => ?_
        obtain ⟨m, hm⟩ := Option.isSome_iff_exists.1 (again x hx)
        simp only [Context.immerses, hm, Option.getD_some, Option.isSome_some, if_true, Bool.or_true]
      · rw [if_neg (by omega), if_neg (by omega)]
      · rw [if_neg (by omega), if_pos out, enterDraining_dwells live h0]
        exact changeDip_congr fun x _ => by simp only [Context.drains, Bool.or_false]
      · rw [if_neg (by omega), if_pos out, enterDraining_noDwell live h0]
        simp only [Bool.or_false]

end Sys2Proof.Machine
end

section
/-! The samples of a dip in the bath and after it: the in-bath updates, the weighing, and the exit from ABANDONED
(R86, R87, R89, R91, R93). -/

namespace Sys2Proof.Machine

/-! ## The in-bath updates (R86, R87) -/

/-- The updates of one context whose W_dry, A_exp, A_min and A_max its tare capture has set (R86, R87). -/
theorem Context.inBathUpdate_eq {c : Context} {pr : Profile} {f wDry aExp lo hi : Int} {found : DipState}
    (hw : c.wDry = some wDry) (ha : c.aExp = some aExp) (hlo : c.aMin = some lo) (hhi : c.aMax = some hi) :
    c.inBathUpdate pr f found = { c with
      aMin := some (min f lo), aMax := some (max f hi)
      grounded := decide (f < wDry * pr.groundFraction / 1000)
      floatLatched := c.floatLatched
        || ((found == .immersed || c.state == .immersed) && decide (f < aExp - pr.floatMargin))
      flags := { c.flags with
        grounded := c.flags.grounded || ((c.inBathUpdate pr f found).grounded && !c.grounded)
        float := c.flags.float || ((c.inBathUpdate pr f found).floatLatched && !c.floatLatched) } } := by
  have onset (latched floats : Bool) : ((latched || floats) && !latched) = (floats && !latched) := by
    cases latched <;> simp
  simp only [Context.inBathUpdate, groundThreshold, floatTested, hw, ha, hlo, hhi, Option.getD_some, onset]

/-- A sample in the bath updates the contexts of the dip, with the notices of its onsets. -/
theorem inBathUpdates_eq {h : Hoist} {found : DipState} {s : State} {pr : Profile} {f : Int}
    (hpr : tagProfile h s = some pr) (hf : dipFiltered h s = some f) (hs : (s.contexts.get h).state.inBath = true) :
    inBathUpdates h found s = { changeDip h (fun c => c.inBathUpdate pr f found) s with
      notices := { s.notices with
        grounded := s.notices.grounded
          || (((s.contexts.get h).inBathUpdate pr f found).grounded && !(s.contexts.get h).grounded)
        floatAnomaly := s.notices.floatAnomaly
          || (((s.contexts.get h).inBathUpdate pr f found).floatLatched && !(s.contexts.get h).floatLatched) } } := by
  simp only [inBathUpdates, hpr, hf, hs, if_true, modContexts_members, setNoticeIf_eq]
  rfl

/-- Settles O31: every context of the dip takes the updates of the hoist's own, and no other does. -/
theorem inBathSamplesGroundAndFloat : Obligations.InBathSamplesGroundAndFloat := by
  intro h found s t c c' o tg pr f wDry aExp lo hi hc hs htag hpr hf hw ha hlo hhi ht hc' ho
  subst hc ho
  have profile : tagProfile h s = some pr := (tagProfile_some htag).trans hpr
  have updates := inBathUpdates_eq (found := found) profile hf ((inBath_iff _).2 hs)
  rw [← ht] at updates
  have get (x : Hoist) : t.contexts.get x
      = (changeDip h (fun c => c.inBathUpdate pr f found) s).contexts.get x := by rw [updates]
  have own : c' = (s.contexts.get h).inBathUpdate pr f found :=
    hc'.trans ((get h).trans (changeDip_get_shared (sharesDip_self h s)))
  refine ⟨?_, fun alone => ?_, fun paired alike => ?_, ?_⟩
  · rw [own]
    exact Context.inBathUpdate_eq hw ha hlo hhi
  · rw [get, changeDip_get_else]
    rw [sharesDip, alone, Bool.or_false, beq_eq_false_iff_ne]
    exact Hoist.other_ne h
  · rw [get, changeDip_get_shared ((sharesDip_iff ..).2 (.inr paired)), own]
    generalize s.contexts.get h.other = o at alike ⊢
    rw [alike]
    rfl
  · rw [own, updates]
    rfl

/-! ## The weighing (R89, R91) -/

/-- What a weighing measures is the channels' and the tables', over the hoists driven together. -/
theorem ClaimsOnly.measures {s t : State} (hc : ClaimsOnly s t) (hj : joint t = joint s) (h : Hoist) :
    dipFiltered h t = dipFiltered h s ∧ dipSettled h t = dipSettled h s ∧ recordHoist h t = recordHoist h s := by
  unfold dipFiltered dipSettled recordHoist
  rw [hj]
  obtain ⟨o, w, p, rfl⟩ := hc
  exact ⟨rfl, rfl, rfl⟩

section Weighing

variable {h : Hoist} {s : State} {tg : TagArgs} {b f : Int}

/-- The release that a sample at this bottom makes first (R89). -/
def releaseAbove (h : Hoist) (b : Int) (s : State) : State := if approachHeight s ≤ b then releaseClaim h s else s

theorem releaseAbove_eq (h : Hoist) (b : Int) (s : State) : releaseAbove h b s
    = if (s.contexts.get h).claim = .held ∧ s.tables.zoneMap.rim + s.tables.zoneMap.margin ≤ b then releaseDip h s
      else s := by
  have approach : approachHeight s = s.tables.zoneMap.rim + s.tables.zoneMap.margin := rfl
  rw [releaseAbove, releaseClaim_eq, approach]
  by_cases held : (s.contexts.get h).claim = .held <;> simp [held]

theorem releaseAbove_claimsOnly (h : Hoist) (b : Int) (s : State) : ClaimsOnly s (releaseAbove h b s) := by
  unfold releaseAbove
  split
  · exact releaseClaim_claimsOnly h s
  · exact ⟨_, _, _, rfl⟩

theorem joint_releaseAbove (hw : (s.contexts.get h).claim = .held → waitingOk s = true) :
    joint (releaseAbove h b s) = joint s := by
  unfold releaseAbove
  split
  · exact joint_releaseClaim hw
  · rfl

theorem releaseAbove_get (hw : (s.contexts.get h).claim = .held → waitingOk s = true)
    (hs : (s.contexts.get h).state = .weighing) : (releaseAbove h b s).contexts.get h = s.contexts.get h
      ∨ (releaseAbove h b s).contexts.get h = (s.contexts.get h).unclaimed := by
  unfold releaseAbove
  split
  · exact releaseClaim_get hw (sharesDip_self h s) (by simp [hs])
  · exact .inl rfl

/-- A weighing dip whose claim is not held, or is released at this bottom, holds none after. -/
theorem releaseAbove_unclaimed (hw : (s.contexts.get h).claim = .held → waitingOk s = true)
    (hs : (s.contexts.get h).state = .weighing) (hr : (s.contexts.get h).claim ≠ .held
      ∨ s.tables.zoneMap.rim + s.tables.zoneMap.margin ≤ b) : ((releaseAbove h b s).contexts.get h).claim ≠ .held := by
  rw [releaseAbove_eq]
  split
  · next hc =>
    rw [releaseDip_get (hw hc.1) (sharesDip_self h s) (by simp [hs])]
    exact nofun
  · next hc => exact fun held => hc ⟨held, hr.resolve_left (not_not_intro held)⟩

/-- A sample in WEIGHING: the release at its bottom, then the close of a settled dip with the weight (R89, R91). -/
theorem sampleWeighing_tests (hs : (s.contexts.get h).state = .weighing) (ht : (s.contexts.get h).tag = some tg)
    (hb : dipBottom h s = some b) (hf : dipFiltered h s = some f)
    (hw : (s.contexts.get h).claim = .held → waitingOk s = true) : sampleWeighing h s
    = if dipSettled h s
      then finishDip h (closeNormal (s.contexts.get h) tg (recordHoist h s) f (releaseAbove h b s))
      else releaseAbove h b s := by
  obtain ⟨filtered, settled, hoist⟩ := (releaseAbove_claimsOnly h b s).measures (joint_releaseAbove hw) h
  have closes : dipNormal h f (releaseAbove h b s)
      = finishDip h (closeNormal (s.contexts.get h) tg (recordHoist h s) f (releaseAbove h b s)) := by
    unfold dipNormal
    rw [hoist]
    rcases releaseAbove_get hw hs with e | e <;> rw [e]
    · rw [ht]
    · rw [show (s.contexts.get h).unclaimed.tag = some tg from ht]
      rfl
  have released : sampleWeighing h s = match dipFiltered h (releaseAbove h b s) with
      | some f => if dipSettled h (releaseAbove h b s) then dipNormal h f (releaseAbove h b s) else releaseAbove h b s
      | none => releaseAbove h b s := by
    unfold sampleWeighing
    rw [hb]
    rfl
  rw [released, filtered, settled, hf]
  simp only [closes]

/-- The end of a dip with no claim held. -/
theorem finishDip_unclaimed {u : State} (hc : (u.contexts.get h).claim ≠ .held) :
    finishDip h u = changeDip h Context.ended u := by
  rw [finishDip_eq fun held => absurd held hc, releaseClaim_eq, if_neg hc]
  rfl

/-- The end of a dip with its claim still held. -/
theorem finishDip_claimed {u : State} (hc : (u.contexts.get h).claim = .held) (hw : waitingOk u = true) :
    finishDip h u = changeDip h Context.ended (releaseDip h u) := by
  rw [finishDip_eq fun _ => hw, releaseClaim_eq, if_pos hc]
  rfl

end Weighing

theorem AccountsOnly.contexts {s t : State} (h : AccountsOnly s t) : t.contexts = s.contexts := by
  obtain ⟨_, _, _, _, rfl⟩ := h
  rfl

theorem AccountsOnly.waitingOk {s t : State} (h : AccountsOnly s t) : waitingOk t = waitingOk s := by
  obtain ⟨_, _, _, _, rfl⟩ := h
  rfl

/-! ## The exit from ABANDONED (R93, R116) -/

theorem sampleAbandoned_tests {h : Hoist} {s : State} {b : Int} (hb : ownBottom h s = some b) : sampleAbandoned h s
    = if approachHeight s ≤ b then
        if (s.contexts.get h).pair = .paired then
          if (s.contexts.get h.other).state = .abandoned ∧ (s.contexts.get h.other).pair = .paired
          then s.setContext h (s.contexts.get h).ended
          else releaseZones .pair (s.setContext h (s.contexts.get h).ended)
        else releaseZones (.hoist h) (s.setContext h (s.contexts.get h).ended)
      else s := by
  unfold sampleAbandoned
  rw [hb]
  rfl

/-- Settles O32: the weighing by its release and its close, and the exit by the bottom and the partner. -/
theorem weighingAndAbandonedSamplesReleaseAndClose : Obligations.WeighingAndAbandonedSamplesReleaseAndClose := by
  refine ⟨fun h s rel c tg b f hc hs ht hb hf hw hrel => ?_, fun h s out c o hc ho hs hout => ?_⟩
  · subst hc
    have above : rel = releaseAbove h b s := hrel.trans (releaseAbove_eq h b s).symm
    subst above
    have test : transitionTest h s = sampleWeighing h s := by simp only [transitionTest, hs]
    rw [test, sampleWeighing_tests hs ht hb hf hw]
    refine ⟨fun hn => if_neg (by simp [hn]), fun hd hr => ?_, fun hd held below => ?_⟩
    · rw [if_pos hd]
      refine finishDip_unclaimed ?_
      rw [(closeNormal_accountsOnly ..).contexts]
      exact releaseAbove_unclaimed hw hs hr
    · have still : releaseAbove h b s = s := by
        rw [releaseAbove_eq]
        exact if_neg fun hr => absurd hr.2 (Int.not_le.2 below)
      rw [if_pos hd, still]
      refine finishDip_claimed ?_ ((closeNormal_accountsOnly ..).waitingOk.trans (hw held))
      rw [(closeNormal_accountsOnly ..).contexts]
      exact held
  · subst hc ho hout
    have test : transitionTest h s = sampleAbandoned h s := by simp only [transitionTest, hs]
    rw [test]
    refine ⟨fun hn => ?_, fun b hb => ?_⟩
    · unfold sampleAbandoned
      rw [hn]
    rw [sampleAbandoned_tests hb]
    refine ⟨fun below => if_neg (Int.not_le.2 below), fun above => ?_⟩
    rw [if_pos (show approachHeight s ≤ b from above)]
    refine ⟨fun single => if_neg single, fun pair both => ?_, fun pair second => ?_⟩
    · rw [if_pos pair, if_pos both]
      rfl
    · rw [if_pos pair, if_neg second]
      rfl

end Sys2Proof.Machine
end

section
/-! The timers of a dip: the drain dwell that begins the weighing, and the weigh timer that closes the dip UNWEIGHED
(R77, R88, R90). -/

namespace Sys2Proof.Machine

/-! ## The close without a wet weight (R90, R147, R150) -/

theorem closeUnweighed_eq (c : Context) (tg : TagArgs) (hoist : RecordHoist) (s : State) :
    closeUnweighed c tg hoist s = { s with
      tables := unweighedTables tg s
      records := s.records ++ [dipRecord c tg hoist .unweighed s]
      nextRecord := s.nextRecord + 1
      notices := { s.notices with
        dipClosed := true, recordQueueHigh := s.notices.recordQueueHigh || s.records.length == 39 } } := by
  have high : (s.records.length + 1 == Config.recordsHigh) = (s.records.length == 39) :=
    Bool.eq_iff_iff.2 (by simp [Config.recordsHigh])
  unfold closeUnweighed writeRecord
  rw [high]
  cases s.records.length == 39 <;> simp <;> rfl

/-! ## The release beside the accounts -/

/-- What a close and an event's start change, none of which bears on the arbiter: the accounts and the frames. -/
def booked (x : Tables) (r : List Record) (n : BitVec 16) (f : NoticeFlags) (l : List Sent) (s : State) : State :=
  { s with tables := x, records := r, nextRecord := n, notices := f, sent := l }

section Booked

variable (x : Tables) (r : List Record) (n : BitVec 16) (f : NoticeFlags) (l : List Sent)

theorem modContexts_booked (ms : List Hoist) (g : Context → Context) (s : State) :
    modContexts ms g (booked x r n f l s) = booked x r n f l (modContexts ms g s) := by
  unfold modContexts
  induction ms generalizing s with
  | nil => rfl
  | cons m ms ih => exact ih (s.setContext m (g (s.contexts.get m)))

theorem releaseZones_booked (o : Owner) (s : State) :
    releaseZones o (booked x r n f l s) = booked x r n f l (releaseZones o s) := by
  have waiting : (booked x r n f l s).waiting = s.waiting := rfl
  have owners : (booked x r n f l s).owners = s.owners := rfl
  simp only [releaseZones, grantWaiting, waiting, owners]
  cases s.waiting with
  | none => rfl
  | some w =>
    simp only
    split
    · exact modContexts_booked x r n f l _ _ { s with owners := _, waiting := none }
    · rfl

theorem releaseClaim_booked (h : Hoist) (s : State) :
    releaseClaim h (booked x r n f l s) = booked x r n f l (releaseClaim h s) := by
  have claim : ((booked x r n f l s).contexts.get h).claim = (s.contexts.get h).claim := rfl
  rw [releaseClaim_eq, releaseClaim_eq, claim]
  split
  · exact releaseZones_booked x r n f l (dipClaimant h s) (changeDip h Context.unclaimed s)
  · rfl

/-- A dip ends after its close as it would have ended before it. -/
theorem finishDip_booked (h : Hoist) (s : State) :
    finishDip h (booked x r n f l s) = booked x r n f l (finishDip h s) := by
  unfold finishDip
  rw [releaseClaim_booked]
  exact modContexts_booked x r n f l (members h s) Context.toIdle (releaseClaim h s)

end Booked

/-! ## The end of a dip, whatever waits -/

theorem modContexts_members_get (h x : Hoist) (f : Context → Context) (s t : State) :
    (modContexts (members h s) f t).contexts.get x
      = if sharesDip h x s then f (t.contexts.get x) else t.contexts.get x := by
  unfold members sharesDip
  cases joint s <;> cases h <;> cases x <;> rfl

/-- A release keeps what a context keeps past its dip: the maintenance permit and the jig weigh. -/
theorem releaseDip_toIdle (h x : Hoist) (s : State) :
    ((releaseDip h s).contexts.get x).toIdle = (s.contexts.get x).ended := by
  have unclaimed : ((changeDip h Context.unclaimed s).contexts.get x).toIdle = (s.contexts.get x).ended := by
    rw [changeDip_get]
    split <;> rfl
  rcases releaseZones_get (dipClaimant h s) x (changeDip h Context.unclaimed s) with e | ⟨_, _, _, e⟩
  · exact (congrArg Context.toIdle e).trans unclaimed
  · exact (congrArg Context.toIdle e).trans unclaimed

theorem finishDip_claimsOnly (h : Hoist) (s : State) : ClaimsOnly s (finishDip h s) :=
  (releaseClaim_claimsOnly h s).trans (modContexts_claimsOnly _ _ _)

/-- The end of a dip takes the contexts that share it to IDLE, and leaves the rest to the release of its claim. -/
theorem finishDip_contexts (h x : Hoist) (s : State) : (finishDip h s).contexts.get x
    = if sharesDip h x s then (s.contexts.get x).ended else (releaseClaim h s).contexts.get x := by
  rw [finishDip, modContexts_members_get]
  congr 1
  rw [releaseClaim_eq]
  split
  · exact releaseDip_toIdle h x s
  · rfl

/-- The arbiter, and the context that does not share the dip, are as the release of its claim leaves them. -/
theorem finishDip_leaves (h : Hoist) (s : State) : (finishDip h s).owners = (releaseClaim h s).owners
    ∧ (finishDip h s).waiting = (releaseClaim h s).waiting
    ∧ ∀ x, sharesDip h x s = false → (finishDip h s).contexts.get x = (releaseClaim h s).contexts.get x := by
  obtain ⟨p, e⟩ := modContexts_eq (members h s) Context.toIdle (releaseClaim h s)
  refine ⟨?_, ?_, fun x hx => ?_⟩
  · rw [finishDip, e]
  · rw [finishDip, e]
  · rw [finishDip_contexts, if_neg (by simp [hx])]

/-! ## The expiries (R77) -/

theorem exec_drainDwellExpiry {h : Hoist} {s : State} {tg : TagArgs} {pr : Profile}
    (hs : (s.contexts.get h).state = .draining) (hd : reachedBy (s.contexts.get h).drainTimer s.now)
    (ht : (s.contexts.get h).tag = some tg) (hp : findProfile tg.profile s = some pr) :
    exec (.drainDwellExpiry h) s = .next (syncPollMode (changeDip h (fun c => { c with
      state := .weighing, drainTimer := none, weighTimer := some (s.now + pr.weighTimeout * 100) })
        (restartSettle h s.begin))) := by
  have due := (timerDue_iff .draining Context.drainTimer h s.begin).2 ⟨hs, hd⟩
  refine congrArg Host.Outcome.next ((if_pos due).trans ?_)
  have profile : tagProfile h s.begin = some pr := (tagProfile_some (s := s.begin) ht).trans hp
  simp only [drainExpired, profile, enterWeighing_members]
  rfl

/-- The dip ended, with the record and the charges of its close UNWEIGHED. -/
def unweighedEnd (h : Hoist) (tg : TagArgs) (s : State) : State := booked (unweighedTables tg s)
  (s.records ++ [dipRecord (s.contexts.get h) tg (if joint s then .both else .one h) .unweighed s]) (s.nextRecord + 1)
  { s.notices with dipClosed := true, recordQueueHigh := s.notices.recordQueueHigh || s.records.length == 39 } []
  (finishDip h s)

theorem exec_weighTimerExpiry {h : Hoist} {s : State} {tg : TagArgs} (hs : (s.contexts.get h).state = .weighing)
    (hd : reachedBy (s.contexts.get h).weighTimer s.now) (ht : (s.contexts.get h).tag = some tg) :
    exec (.weighTimerExpiry h) s = .next (syncPollMode (unweighedEnd h tg s)) := by
  have due := (timerDue_iff .weighing Context.weighTimer h s.begin).2 ⟨hs, hd⟩
  refine congrArg Host.Outcome.next ((if_pos due).trans ?_)
  have tag : (s.begin.contexts.get h).tag = some tg := ht
  simp only [weighExpired, tag, closeUnweighed_eq]
  exact congrArg syncPollMode (finishDip_booked _ _ _ _ _ h s)

/-- Settles O33: the drain dwell by the entry to WEIGHING, the weigh timer by the close and the end of the dip. -/
theorem drainAndWeighTimersExpire : Obligations.DrainAndWeighTimersExpire := by
  refine ⟨fun h s tg pr hs hd ht hp => ⟨_, exec_drainDwellExpiry hs hd ht hp, ?_⟩,
    fun h s tg hs hd ht => ⟨_, exec_weighTimerExpiry hs hd ht, ?_⟩, fun h s => ⟨fun hn => ?_, fun hn => ?_⟩⟩
  · obtain ⟨l, n, u, b, nothing, e⟩ := syncPollMode_pollOnly (changeDip h (fun c => { c with
      state := .weighing, drainTimer := none, weighTimer := some (s.now + pr.weighTimeout * 100) })
        (restartSettle h s.begin))
    rw [e]
    exact ⟨rfl, rfl, rfl, rfl, rfl, rfl, rfl, rfl, rfl, rfl, nothing⟩
  · obtain ⟨l, n, u, b, nothing, e⟩ := syncPollMode_pollOnly (unweighedEnd h tg s)
    obtain ⟨_, _, _, only⟩ := finishDip_claimsOnly h s
    rw [e]
    refine ⟨rfl, rfl, fun x hx => ?_, fun hc => ?_, fun hc => ?_, rfl, rfl, ?_, ?_, ?_, ?_, nothing⟩
    · exact (finishDip_contexts h x s).trans (if_pos hx)
    · have leaves := finishDip_leaves h s
      rw [releaseClaim_eq, if_neg hc] at leaves
      exact leaves
    · have leaves := finishDip_leaves h s
      rw [releaseClaim_eq, if_pos hc] at leaves
      exact leaves
    all_goals
      simp only [unweighedEnd, booked, only]
  · exact congrArg Host.Outcome.next (if_neg (by simp [timerDue_false (timer := Context.drainTimer) (s := s.begin) hn]))
  · exact congrArg Host.Outcome.next (if_neg (by simp [timerDue_false (timer := Context.weighTimer) (s := s.begin) hn]))

end Sys2Proof.Machine
end

section
/-! The zone arbiter's claims and releases as equations, and the requests that change the zone map by their checks in
order (R101 to R107, R113). -/

namespace Sys2Proof.Machine

/-! ## Claims and releases (R106, R107) -/

theorem inSet_iff (first last : Nat) (z : Zone) : inSet first last z = true ↔ first ≤ z.num ∧ z.num ≤ last := by
  rw [inSet, Bool.and_eq_true, decide_eq_true_eq, decide_eq_true_eq]

theorem grantable_iff (o : Owner) (first last : Nat) (owners : PerZone Owner) : grantable o first last owners = true
    ↔ ∀ z : Zone, first ≤ z.num → z.num ≤ last → owners.get z = .none ∨ owners.get z = o := by
  simp only [inSet_grantable_iff, inSet_iff, and_imp]

theorem grantZones_get_within (o : Owner) (first last : Nat) (owners : PerZone Owner) (z : Zone) :
    (grantZones o first last owners).get z = if first ≤ z.num ∧ z.num ≤ last then o else owners.get z := by
  simp only [grantZones_get, inSet_iff]

/-- The contexts that a claimant stands for, changed, and nothing else (R105). -/
theorem modContexts_hoists (o : Owner) (f : Context → Context) (s : State) :
    modContexts o.hoists f s = { s with contexts := claimContexts o f s } := by
  cases o <;> rfl

theorem submitClaim_granted {o : Owner} {first last : Nat} {s : State}
    (hg : grantable o first last s.owners = true) : submitClaim o first last s = { s with
      owners := grantZones o first last s.owners, contexts := claimContexts o Context.granted s } := by
  rw [submitClaim, if_pos hg, modContexts_hoists]
  rfl

theorem submitClaim_waits {o : Owner} {first last : Nat} {s : State}
    (hg : ¬ grantable o first last s.owners = true) : submitClaim o first last s = { s with
      waiting := some ⟨o, first, last⟩, contexts := claimContexts o Context.claimWaits s } := by
  rw [submitClaim, if_neg hg, modContexts_hoists]
  rfl

theorem releaseZones_none {s : State} (o : Owner) (hw : s.waiting = none) :
    releaseZones o s = { s with owners := freeZones o s.owners } := by
  simp only [releaseZones, grantWaiting, hw]

theorem releaseZones_grants {s : State} {w : WaitingClaim} (o : Owner) (hw : s.waiting = some w)
    (hg : grantable w.claimant w.first w.last (freeZones o s.owners) = true) :
    releaseZones o s = { s with
      owners := grantZones w.claimant w.first w.last (freeZones o s.owners), waiting := none
      contexts := claimContexts w.claimant Context.granted s } := by
  simp only [releaseZones, grantWaiting, hw, if_pos hg, modContexts_hoists]
  rfl

theorem releaseZones_waits {s : State} {w : WaitingClaim} (o : Owner) (hw : s.waiting = some w)
    (hg : ¬ grantable w.claimant w.first w.last (freeZones o s.owners) = true) :
    releaseZones o s = { s with owners := freeZones o s.owners } := by
  simp only [releaseZones, grantWaiting, hw, if_neg hg]

/-- A claim can be granted after a release where each zone of its set is owned by NONE, by the releasing claimant or by
its own. -/
theorem grantable_freeZones_iff (o w : Owner) (first last : Nat) (owners : PerZone Owner) :
    grantable w first last (freeZones o owners) = true ↔ ∀ z : Zone, first ≤ z.num → z.num ≤ last →
      owners.get z = .none ∨ owners.get z = o ∨ owners.get z = w := by
  rw [grantable_iff]
  refine forall₃_congr fun z _ _ => ?_
  rw [freeZones_get]
  by_cases ho : owners.get z = o <;> simp [ho]

/-- Settles O36: a claim and a release by whether the claim can be granted, the owners zone by zone. -/
theorem claimsAreGrantedWholeOrWait : Obligations.ClaimsAreGrantedWholeOrWait := by
  refine ⟨?_, ?_⟩
  · rintro o first last s t - rfl
    refine ⟨fun free => ?_, fun ⟨z, hf, hl, some', other⟩ => ?_⟩
    · rw [submitClaim_granted ((grantable_iff ..).2 free)]
      exact ⟨grantZones_get_within _ _ _ _, rfl⟩
    · exact submitClaim_waits fun hg => ((grantable_iff ..).1 hg z hf hl).elim some' other
  · rintro o s t - rfl
    refine ⟨fun hw => ?_, fun w first last _ hw => ⟨fun free => ?_, fun ⟨z, hf, hl, some', kept, other⟩ => ?_⟩⟩
    · rw [releaseZones_none o hw]
      exact ⟨rfl, freeZones_get _ _⟩
    · rw [releaseZones_grants o hw ((grantable_freeZones_iff ..).2 free)]
      exact ⟨fun z => by rw [grantZones_get_within, freeZones_get], rfl⟩
    · have blocked : ¬ grantable w first last (freeZones o s.owners) = true := fun hg =>
        ((grantable_freeZones_iff ..).1 hg z hf hl).elim some' fun e => e.elim kept other
      rw [releaseZones_waits o hw blocked]
      exact ⟨rfl, freeZones_get _ _⟩

/-! ## LOAD ZONE MAP (R101, R102) -/

/-- The record of a zone of LOAD ZONE MAP as its items give it (R101). -/
def loadedZone (x : ZoneArgs) : ZoneRec := ⟨x.inService == 1, x.floor, x.ceiling⟩

/-- The zone map of LOAD ZONE MAP as its items give it (R101). -/
def loadedZoneMap (x : ZoneMapArgs) : ZoneMap :=
  { zones := ⟨loadedZone x.z1, loadedZone x.z2, loadedZone x.z3, loadedZone x.z4⟩
    rim := x.rim, margin := x.margin, clearance := x.clearance, emptyLevel := x.emptyLevel
    massPerMm := x.massPerMm, tilt := x.tilt }

/-- A zone's service value is no defined one or one of its items is out of range (R101, log 18). -/
def zoneFails (x : ZoneArgs) : Bool :=
  decide (1 < x.inService ∨ x.floor < -1000 ∨ 5000 < x.floor ∨ x.ceiling < x.floor ∨ 10000 < x.ceiling)

/-- The range checks of LOAD ZONE MAP in their order (R101, R102). -/
def zoneMapChecks (x : ZoneMapArgs) : List Bool :=
  [[x.z1, x.z2, x.z3, x.z4].any zoneFails, decide (20000 < x.rim ∨ 2000 < x.margin ∨ 1000 < x.clearance),
   decide (x.emptyLevel < -2000 ∨ 20000 < x.emptyLevel),
   decide (x.massPerMm < 1 ∨ 65535 < x.massPerMm ∨ x.tilt < 10 ∨ 1000 < x.tilt)]

theorem zoneRecOf_eq (x : ZoneArgs) : zoneRecOf x = if 1 < x.inService then none else some (loadedZone x) := by
  rw [zoneRecOf, boolOf_eq]
  by_cases h : 1 < x.inService
  · simp only [if_pos h]
  · simp only [if_neg h]
    rfl

theorem loadedZone_ok {x : ZoneArgs} (hx : ¬ 1 < x.inService) : (loadedZone x).ok = !zoneFails x := by
  rw [Bool.eq_iff_iff]
  simp only [ZoneRec.ok, withinInt, Bool.and_eq_true, decide_eq_true_eq]
  simp [loadedZone, zoneFails, hx, and_assoc]

theorem loadedZoneMap_ok {x : ZoneMapArgs} (h1 : ¬ 1 < x.z1.inService) (h2 : ¬ 1 < x.z2.inService)
    (h3 : ¬ 1 < x.z3.inService) (h4 : ¬ 1 < x.z4.inService) :
    (loadedZoneMap x).ok = !(zoneMapChecks x).any id := by
  rw [Bool.eq_iff_iff]
  simp only [ZoneMap.ok, within, withinInt, Bool.and_eq_true, decide_eq_true_eq]
  simp [loadedZoneMap, loadedZone_ok h1, loadedZone_ok h2, loadedZone_ok h3, loadedZone_ok h4, zoneMapChecks, and_assoc,
    Nat.one_le_iff_ne_zero]

/-- A zone with a service value that is no defined one fails the first check (log 18). -/
theorem zoneMapChecks_of_undefined {x : ZoneMapArgs} {z : ZoneArgs} (hz : z ∈ [x.z1, x.z2, x.z3, x.z4])
    (h : 1 < z.inService) : (zoneMapChecks x).any id = true := by
  have zones : [x.z1, x.z2, x.z3, x.z4].any zoneFails = true := List.any_eq_true.2 ⟨z, hz, by simp [zoneFails, h]⟩
  simp only [zoneMapChecks, zones, List.any_cons, id_eq, Bool.true_or]

/-- LOAD ZONE MAP's items give a map where none of its range checks fails (R101, R102). -/
theorem zoneMapOf_eq (x : ZoneMapArgs) :
    zoneMapOf x = if (zoneMapChecks x).any id then none else some (loadedZoneMap x) := by
  unfold zoneMapOf
  simp only [zoneRecOf_eq]
  by_cases h1 : 1 < x.z1.inService
  · simp [h1, zoneMapChecks_of_undefined (x := x) (z := x.z1)]
  by_cases h2 : 1 < x.z2.inService
  · simp [h2, zoneMapChecks_of_undefined (x := x) (z := x.z2)]
  by_cases h3 : 1 < x.z3.inService
  · simp [h3, zoneMapChecks_of_undefined (x := x) (z := x.z3)]
  by_cases h4 : 1 < x.z4.inService
  · simp [h4, zoneMapChecks_of_undefined (x := x) (z := x.z4)]
  simp only [if_neg h1, if_neg h2, if_neg h3, if_neg h4]
  have inRange := loadedZoneMap_ok h1 h2 h3 h4
  rw [loadedZoneMap] at inRange
  cases hc : (zoneMapChecks x).any id <;> simp [inRange, hc, loadedZoneMap]

/-- LOAD ZONE MAP (R102). -/
theorem exec_loadZoneMap (q : Req) (x : ZoneMapArgs) (s : State) : exec (.loadZoneMap q x) s = .next (checked q 0xA8
    ((s.save.isSome, .busy) :: (decide (s.contexts.h1.state ≠ .idle ∨ s.contexts.h2.state ≠ .idle), .busy)
      :: (zoneMapChecks x).map (·, .outOfRange))
    [] s { s with tables := { s.tables with zoneMap := loadedZoneMap x } }) := by
  refine manage_answerOf_stored (rule := loadZoneMapRule x) ?_
  have ranges := answerOf_group .outOfRange (zoneMapChecks x) [] s.begin
    ({ s with tables := { s.tables with zoneMap := loadedZoneMap x } } : State).begin
  rw [List.append_nil] at ranges
  rw [answerOf_decide, ranges, answerOf_nil, loadZoneMapRule, zoneMapOf_eq]
  cases (zoneMapChecks x).any id <;> rfl

/-! ## SET DROSS CEILING and SET ZONE SERVICE (R103, R104) -/

/-- SET DROSS CEILING of a zone (R103). -/
theorem exec_setDrossCeiling (q : Req) (z : Zone) (c : Int) (s : State) :
    exec (.setDrossCeiling q z.num c) s = .next (checked q 0xA9
      [(s.save.isSome, .busy), (decide (s.owners.get z ≠ .none), .inBath),
       (decide (c < (s.tables.zoneMap.zones.get z).floor ∨ 10000 < c), .outOfRange)]
      [] s { s with tables := { s.tables with
        zoneMap := { s.tables.zoneMap with
          zones := s.tables.zoneMap.zones.set z { s.tables.zoneMap.zones.get z with ceiling := c } } } }) := by
  refine manage_answerOf_stored (rule := setDrossCeilingRule z.num c) ?_
  rw [answerOf_decide, answerOf_decide, answerOf_nil]
  simp only [setDrossCeilingRule, zoneOf_num]
  rfl

theorem zoneTagged_eq (z : Zone) (s : State) :
    zoneTagged z s = anyTag (fun t => decide (t.firstZone ≤ z.num ∧ z.num ≤ t.lastZone)) s := by
  simp only [zoneTagged, hoistsTagged_isEmpty, Bool.not_not, inSet, Bool.decide_and]

/-- SET ZONE SERVICE of a zone (R104, log 18). -/
theorem exec_setZoneService (q : Req) (z : Zone) (v : Nat) (s : State) :
    exec (.setZoneService q z.num v) s = .next (checked q 0xAA
      [(s.save.isSome, .busy), (decide (1 < v), .outOfRange),
       (v == 0 && anyTag (fun t => decide (t.firstZone ≤ z.num ∧ z.num ≤ t.lastZone)) s, .inUse)]
      [] s { s with tables := { s.tables with
        zoneMap := { s.tables.zoneMap with
          zones := s.tables.zoneMap.zones.set z { s.tables.zoneMap.zones.get z with inService := v == 1 } } } }) := by
  refine manage_answerOf_stored (rule := setZoneServiceRule z.num v) ?_
  rw [answerOf_decide, answerOf_cons, answerOf_nil]
  simp only [setZoneServiceRule, zoneOf_num, boolOf_eq, ← zoneTagged_eq]
  by_cases hv : 1 < v
  · simp only [if_pos hv]
  · have off : (!(v == 1)) = (v == 0) := by
      rw [Bool.eq_iff_iff]
      simp
      omega
    simp only [if_neg hv, off]
    rfl

/-- Settles O37: the three requests, each by its own equation; a number that names no zone is out of range. -/
theorem zoneRequests : Obligations.ZoneRequests := by
  refine ⟨exec_loadZoneMap, exec_setDrossCeiling, exec_setZoneService, fun q n v c s hn => ⟨?_, ?_⟩⟩
  · refine manage_answerOf_stored (rule := setDrossCeilingRule n c) (checks := [(true, .outOfRange)]) ?_
    simp only [setDrossCeilingRule, zoneOf_none n hn]
    rfl
  · refine manage_answerOf_stored (rule := setZoneServiceRule n v) (checks := [(true, .outOfRange)]) ?_
    simp only [setZoneServiceRule, zoneOf_none n hn]
    rfl

end Sys2Proof.Machine
end

section
/-! LOAD BATH SETTINGS: its checks in order, and its effect on the figures, the hold and the poll (R118, R119, R125). -/

namespace Sys2Proof.Machine

/-! ## The checks of LOAD BATH SETTINGS (R118, R119) -/

/-- A request that changes a stored table, answered whatever its effect `t` has sent already. -/
theorem manage_sends_stored {q : Req} {code : Byte} {rule : State → Answer} {checks : List (Bool × Status)}
    {s t : State} (h : rule s.begin = answerOf checks s.begin t) :
    manage q code true rule s = .next (match firstFailure ((s.save.isSome, .busy) :: checks) with
      | some st => answered q code st [] s s
      | none => { t with sent := t.sent ++ [.up (replyTo q code .done [] s t)] }) := by
  rw [manage_next, h, answerOf, firstFailure]
  cases s.save.isSome
  · cases firstFailure checks with
    | some st => exact congrArg Host.Outcome.next (reply_begin q code st [] s s)
    | none => rfl
  · rfl

/-- The checks of the fields' ranges (R118). -/
def bathFieldChecks (x : BathArgs) : List Bool :=
  [decide (126 < x.station ∨ x.low < 3500 ∨ 5500 < x.low ∨ x.high < 3500 ∨ 5500 < x.high),
   decide (200 < x.hysteresis ∨ x.staleTime < 2 ∨ 120 < x.staleTime ∨ x.pollInterval < 1),
   decide (60 < x.pollInterval ∨ 10000000 < x.reconcile)]

theorem BathSettings.fieldsOk_eq (b : BathSettings) : b.fieldsOk = (b.station.all addressOk && within 3500 5500 b.low
    && within 3500 5500 b.high && b.hysteresis ≤ 200 && within 2 120 b.staleTime && within 1 60 b.pollInterval
    && b.reconcile ≤ 10000000) := by
  unfold BathSettings.fieldsOk
  cases b.station <;> rfl

theorem bathSettingsOf_fieldsOk (x : BathArgs) : (bathSettingsOf x).fieldsOk = !(bathFieldChecks x).any id := by
  rw [BathSettings.fieldsOk_eq, bathSettingsOf, stationOf_all, Bool.eq_iff_iff]
  simp [bathFieldChecks, within]
  omega

/-- The two limits of the window are in order where check 3 of R119 does not fail. -/
theorem BathSettings.limitsOk_eq (b : BathSettings) :
    b.limitsOk = !decide (b.high ≤ b.low ∨ b.high < b.low + 2 * b.hysteresis) := by
  rw [Bool.eq_iff_iff]
  simp [BathSettings.limitsOk]

/-! ## The effect of LOAD BATH SETTINGS (R119, R125) -/

/-- A running stale deadline of either figure expires at the change of the stale time (R119, R125). -/
def figureExpires (staleTime : Nat) (s : State) : Bool :=
  expiresAtChange s.bath.temperature staleTime s.now || expiresAtChange s.bath.level staleTime s.now

theorem expiresAtChange_iff (o : Option Figure) (staleTime now : Nat) : expiresAtChange o staleTime now = true
    ↔ ∃ f, o = some f ∧ f.deadline.isSome = true ∧ f.time + staleTime * 1000 < now := by
  cases o <;> simp [expiresAtChange]

theorem figureExpires_iff (staleTime : Nat) (s : State) : figureExpires staleTime s = true
    ↔ ∃ f, (s.bath.temperature = some f ∨ s.bath.level = some f) ∧ f.deadline.isSome = true
      ∧ f.time + staleTime * 1000 < s.now := by
  simp only [figureExpires, Bool.or_eq_true, expiresAtChange_iff, or_and_right, exists_or]

/-- Both figures redated, the hold as it was (R119). -/
def figuresRedated (n : Nat) (s : State) : State :=
  { s with bath := { s.bath with
    temperature := s.bath.temperature.map (fun f => f.redate n s.now)
    level := s.bath.level.map (fun f => f.redate n s.now) } }

theorem redateFigures_eq (n : Nat) (s : State) : redateFigures n s
    = if figureExpires n s then holdStale (figuresRedated n s) else figuresRedated n s := rfl

theorem holdStale_eq (s : State) : holdStale s = { s with
    bath := { s.bath with hold := some .stale }
    notices := { s.notices with bathHold := s.notices.bathHold || s.bath.hold.isNone } } := setNoticeIf_eq _ _ _

/-- The settings stored and the new stale time taken at once (R119). -/
def bathLoaded (x : BathArgs) (s : State) : State :=
  redateFigures x.staleTime { s with sent := [], tables := { s.tables with bath := bathSettingsOf x } }

/-- Beside the settings it changes the figures' deadlines, the hold and BATH HOLD. -/
theorem bathLoaded_eq (x : BathArgs) (s : State) : bathLoaded x s = { s with
    sent := [], tables := { s.tables with bath := bathSettingsOf x }
    bath := { s.bath with
      temperature := s.bath.temperature.map (fun f => f.redate x.staleTime s.now)
      level := s.bath.level.map (fun f => f.redate x.staleTime s.now)
      hold := if figureExpires x.staleTime s then some .stale else s.bath.hold }
    notices := { s.notices with
      bathHold := s.notices.bathHold || (figureExpires x.staleTime s && s.bath.hold.isNone) } } := by
  rw [bathLoaded, redateFigures_eq]
  change (if figureExpires x.staleTime s then _ else _) = _
  cases figureExpires x.staleTime s
  · rw [Bool.false_and, Bool.or_false]
    rfl
  · exact holdStale_eq _

theorem changeBathStation_stays {before after : Option Nat} (s : State) (h : before.isSome = after.isSome) :
    changeBathStation before after s = s := by
  cases before <;> cases after
  · rfl
  · cases h
  · cases h
  · rfl

/-- At a change to no address a pending poll is discarded and the poll timer stops (R119). -/
theorem changeBathStation_ends {before : Option Nat} (s : State) (h : before.isSome = true) :
    changeBathStation before none s = { s with
      ports := { s.ports with k := { s.ports.k with pending := none } }, bath := { s.bath with pollTimer := none } } := by
  cases before
  · cases h
  · rfl

/-! ## The request (R119) -/

/-- The checks of LOAD BATH SETTINGS in their order (R119). -/
def bathChecks (x : BathArgs) (s : State) : List (Bool × Status) :=
  (s.save.isSome, .busy) :: (s.contexts.h1.state.overKettle || s.contexts.h2.state.overKettle, .notAllowed)
    :: ((bathFieldChecks x).map (·, .outOfRange)
      ++ [(decide (x.high ≤ x.low ∨ x.high < x.low + 2 * x.hysteresis), .outOfRange)])

/-- The whole effect: the settings loaded, and the poll as the change of the station's address asks (R119). -/
def bathTaken (x : BathArgs) (s : State) : State :=
  changeBathStation s.tables.bath.station (stationOf x.station) (bathLoaded x s)

/-- LOAD BATH SETTINGS (R119). -/
theorem exec_loadBathSettings (q : Req) (x : BathArgs) (s : State) :
    exec (.loadBathSettings q x) s = .next (match firstFailure (bathChecks x s) with
      | some st => answered q 0xAC st [] s s
      | none => { bathTaken x s with
        sent := (bathTaken x s).sent ++ [.up (replyTo q 0xAC .done [] s (bathTaken x s))] }) := by
  refine manage_sends_stored (rule := loadBathSettingsRule x) ?_
  rw [answerOf_cons, answerOf_group, answerOf_cons, answerOf_nil, loadBathSettingsRule, bathSettingsOf_fieldsOk,
    BathSettings.limitsOk_eq, Bool.not_not, Bool.not_not]
  rfl

/-- Settles O38: the request by its checks, its effect by `bathLoaded_eq`, and the poll by `pollDue`. -/
theorem bathSettingsTakeEffect : Obligations.BathSettingsTakeEffect := by
  rintro q x s _ _ rfl rfl
  rw [exec_loadBathSettings]
  have expires := figureExpires_iff x.staleTime s
  refine ⟨fun st hf => ?_, fun hf => ⟨bathTaken x s, bathLoaded x s, ?_, ?_⟩⟩
  · rw [show firstFailure (bathChecks x s) = _ from hf]
  · rw [show firstFailure (bathChecks x s) = _ from hf]
  · rw [bathTaken, bathLoaded_eq, ← expires]
    refine ⟨rfl, rfl, fun he => ?_, fun hn => ?_, rfl, changeBathStation_stays _, fun hs hn => ?_,
      fun a hs ha => ?_⟩
    · exact ⟨if_pos he, by rw [he, Bool.true_and]⟩
    · exact ⟨if_neg hn, by rw [Bool.eq_false_iff.2 hn, Bool.false_and, Bool.or_false]⟩
    · rw [show stationOf x.station = none from hn, changeBathStation_ends _ hs]
    · rw [hs, show stationOf x.station = some a from ha, changeBathStation]
      refine ⟨fun hk hu => ?_, fun hk => ?_⟩
      · rw [pollDue_sends (by exact ha) (by exact hk) (by exact hu), sendPoll_some a _ (by exact ha)]
        rfl
      · exact pollDue_waits (by exact ha) (by exact hk)

end Sys2Proof.Machine
end

section
/-! A bath sample: each of its steps as an equation, and the whole sample from them (R122, R124, R126, R128). -/

namespace Sys2Proof.Machine

/-! ## The count and the hold (R124) -/

/-- A temperature received outside the window (R124). -/
def outsideWindow (r : BathReading) (s : State) : Bool := r.tempValid && !inWindow s.tables.bath r.temperature

/-- The out-of-window count after a sample (R124). -/
def countAfter (r : BathReading) (s : State) : Nat :=
  if outsideWindow r s then min 255 (s.bath.outCount + 1) else if r.tempValid then 0 else s.bath.outCount

/-- The cause of the hold after the count (R124). -/
def causeAfter (r : BathReading) (s : State) : Option HoldCause :=
  if outsideWindow r s ∧ 4 ≤ countAfter r s then some (if r.temperature < s.tables.bath.low then .low else .high)
  else s.bath.hold

theorem isNone_and_isSome {α : Type} (o : Option α) : (o.isNone && o.isSome) = false := by cases o <;> rfl

/-- Step 3 changes the count, the hold, and BATH HOLD at the onset of the hold (R124). -/
theorem windowCount_eq (r : BathReading) (s : State) : windowCount r s = { s with
    bath := { s.bath with outCount := countAfter r s, hold := causeAfter r s }
    notices := { s.notices with
      bathHold := s.notices.bathHold || (s.bath.hold.isNone && (causeAfter r s).isSome) } } := by
  unfold windowCount causeAfter countAfter outsideWindow
  cases hv : r.tempValid with
  | false => simp [isNone_and_isSome]
  | true =>
    cases hw : inWindow s.tables.bath r.temperature with
    | true => simp [isNone_and_isSome, State.setBath]
    | false =>
      by_cases h4 : 4 ≤ min 255 (s.bath.outCount + 1)
      · have h3 : 3 ≤ s.bath.outCount := by omega
        simp [satAdd, h3, setNoticeIf_eq, State.setBath, NoticeFlags.set, NoticeFlags.get]
      · simp [satAdd, h4, isNone_and_isSome, State.setBath]

/-! ## Fresh figures (R123) -/

/-- A figure is fresh where it is present with a deadline that has not passed (R123, log 13). -/
theorem isFresh_eq (o : Option Figure) (now : Nat) :
    isFresh o now = o.any (fun f => f.deadline.any (fun d => decide (now ≤ d))) := by
  cases o with
  | none => rfl
  | some f => cases h : f.deadline <;> simp [isFresh, Figure.fresh, h]

/-- A figure just received is fresh. -/
theorem isFresh_received (o : Option Figure) (b : Bool) (v : Int) (x : BathSettings) (now : Nat) :
    isFresh (if b then some (freshFigure v x now) else o) now = (b || isFresh o now) := by
  cases b
  · rfl
  · simp [isFresh, Figure.fresh, freshFigure]

/-! ## The release (R126) -/

/-- The hold is released at a sample (R126). -/
def releasesHold (r : BathReading) (s : State) : Bool :=
  s.bath.hold.isSome && r.tempValid && inReleaseWindow s.tables.bath r.temperature
    && isFresh s.bath.temperature s.now && isFresh s.bath.level s.now

/-- Step 4 changes the hold and BATH RELEASED (R126). -/
theorem bathRelease_eq (r : BathReading) (s : State) : bathRelease r s = { s with
    bath := { s.bath with hold := if releasesHold r s then none else s.bath.hold }
    notices := { s.notices with bathReleased := s.notices.bathReleased || releasesHold r s } } := by
  change (if releasesHold r s then _ else _) = _
  cases releasesHold r s
  · rw [Bool.or_false]
    rfl
  · rw [Bool.or_true]
    rfl

/-! ## The quiet level sample (R128) -/

/-- The quiet level sample that a level gives (R128). -/
def quietOf (r : BathReading) (s : State) : QuietSample :=
  let implied := impliedMass s.tables.zoneMap r.level
  ⟨r.level, implied, s.now, clampInt (-Config.differenceMax) Config.differenceMax ((s.tables.balance.k : Int) - implied)⟩

/-- Step 5 changes the quiet sample, and RECONCILE EXCEEDED where the difference first goes beyond its limit (R128). -/
theorem quietSample_eq (r : BathReading) (s : State) : quietSample r s = { s with
    bath := { s.bath with quiet := if r.validLevel && bathQuiet s then some (quietOf r s) else s.bath.quiet }
    notices := { s.notices with
      reconcileExceeded := s.notices.reconcileExceeded || (r.validLevel && bathQuiet s
        && decide (s.tables.bath.reconcile < (quietOf r s).difference.natAbs)
        && s.bath.quiet.all (fun y => decide (y.difference.natAbs ≤ s.tables.bath.reconcile))) } } := by
  unfold quietSample
  cases r.validLevel && bathQuiet s
  · simp only [Bool.false_and, Bool.or_false]
    rfl
  · simp only [if_true, Bool.true_and, setNoticeIf_eq]
    cases s.bath.quiet <;> rfl

/-- The states of R128 written out. -/
theorem bathQuiet_eq (s : State) : bathQuiet s
    = (!decide (s.contexts.h1.state ∈ [.entering, .immersed, .withdrawing, .draining])
      && !decide (s.contexts.h2.state ∈ [.entering, .immersed, .withdrawing, .draining])) := by
  have each (st : DipState) : (st.inBath || st == .draining)
      = decide (st ∈ [.entering, .immersed, .withdrawing, .draining]) := by cases st <;> rfl
  rw [bathQuiet, Bool.or_assoc, each, each, Bool.not_or]

/-! ## The whole sample (R122) -/

/-- A sample releases the hold that its count leaves (R126). -/
def sampleReleases (r : BathReading) (s : State) : Bool :=
  (causeAfter r s).isSome && r.tempValid && inReleaseWindow s.tables.bath r.temperature
    && (r.validLevel || isFresh s.bath.level s.now)

/-- The temperature of the sample itself is fresh at its step 4, and its level where it is valid. -/
theorem releasesHold_sample (r : BathReading) (s : State) :
    releasesHold r (windowCount r (bathFigures r s)) = sampleReleases r s := by
  have same : causeAfter r (bathFigures r s) = causeAfter r s := rfl
  rw [windowCount_eq, releasesHold, sampleReleases, same]
  simp only [bathFigures, State.setBath, isFresh_received]
  cases r.tempValid
  · simp only [Bool.and_false, Bool.false_and]
  · simp only [Bool.true_or, Bool.and_true]

/-- What a bath sample makes of the state (R122). -/
theorem takeBathSample_eq (r : BathReading) (s : State) : takeBathSample r s = { s with
    bath := { s.bath with
      temperature := if r.tempValid then some (freshFigure r.temperature s.tables.bath s.now) else s.bath.temperature
      level := if r.validLevel then some (freshFigure r.level s.tables.bath s.now) else s.bath.level
      outCount := countAfter r s
      hold := if sampleReleases r s then none else causeAfter r s
      quiet := if r.validLevel && bathQuiet s then some (quietOf r s) else s.bath.quiet }
    notices := { s.notices with
      bathHold := s.notices.bathHold || (s.bath.hold.isNone && (causeAfter r s).isSome)
      bathReleased := s.notices.bathReleased || sampleReleases r s
      reconcileExceeded := s.notices.reconcileExceeded || (r.validLevel && bathQuiet s
        && decide (s.tables.bath.reconcile < (quietOf r s).difference.natAbs)
        && s.bath.quiet.all (fun y => decide (y.difference.natAbs ≤ s.tables.bath.reconcile))) } } := by
  rw [takeBathSample, quietSample_eq, bathRelease_eq, releasesHold_sample, windowCount_eq]
  rfl

/-- Settles O40: the five steps of a sample by `takeBathSample_eq`. -/
theorem bathSamplesHoldAndRelease : Obligations.BathSamplesHoldAndRelease := by
  rintro r s _ _ _ _ _ _ _ _ rfl rfl rfl rfl rfl rfl rfl rfl
  rw [takeBathSample_eq, sampleReleases, isFresh_eq, bathQuiet_eq, ← Bool.and_assoc]
  refine ⟨rfl, rfl, rfl, rfl, ?_, rfl⟩
  rintro _ _ rfl rfl
  exact ⟨rfl, rfl⟩

end Sys2Proof.Machine
end

section
/-! The stored tables in their ranges (R172), part by part, and what keeps each part so: the keyed tables of the jigs and
the jobs, the kettle balance's law (R138), the zone map. -/

namespace Sys2Proof.Machine

/-! ## Tables of entries found by a number (R64, R131) -/

theorem allDistinct_iff_nodup (l : List Nat) : allDistinct l = true ↔ l.Nodup := by
  induction l with
  | nil => simp [allDistinct]
  | cons x xs ih => simp [allDistinct, ih]

/-- A table of entries `xs` found by `key`: not over its places, each entry in its ranges, no number twice. -/
structure KeyedOk {α : Type} (places : Nat) (ok : α → Bool) (key : α → Nat) (xs : List α) : Prop where
  room : xs.length ≤ places
  each : ∀ x ∈ xs, ok x = true
  distinct : (xs.map key).Nodup

section Keyed

variable {α : Type} {places : Nat} {ok : α → Bool} {key : α → Nat} {xs : List α}

/-- A new entry in a free place, of a number that no entry has. -/
theorem KeyedOk.append (h : KeyedOk places ok key xs) {x : α} (hp : ¬ places ≤ xs.length) (hx : ok x = true)
    (hn : xs.find? (fun y => key y == key x) = none) : KeyedOk places ok key (xs ++ [x]) := by
  refine ⟨by simp; omega, fun y hy => ?_, ?_⟩
  · rcases List.mem_append.1 hy with hy | hy
    · exact h.each y hy
    · rwa [List.mem_singleton.1 hy]
  · rw [List.map_append, List.nodup_append]
    refine ⟨h.distinct, by simp, fun a ha b hb => ?_⟩
    obtain ⟨y, hy, rfl⟩ := List.mem_map.1 ha
    rw [List.mem_singleton.1 hb]
    simpa using List.find?_eq_none.1 hn y hy

/-- The entries of one number changed, their number kept. -/
theorem KeyedOk.modify (h : KeyedOk places ok key xs) {f : α → α} (n : Nat) (hk : ∀ x, key (f x) = key x)
    (ho : ∀ x, ok x = true → ok (f x) = true) :
    KeyedOk places ok key (xs.map (fun x => if key x = n then f x else x)) := by
  refine ⟨by simpa using h.room, fun y hy => ?_, ?_⟩
  · obtain ⟨x, hx, rfl⟩ := List.mem_map.1 hy
    split
    · exact ho x (h.each x hx)
    · exact h.each x hx
  · have same : key ∘ (fun x => if key x = n then f x else x) = key := by
      funext x
      rw [Function.comp_apply]
      split
      · exact hk x
      · rfl
    rw [List.map_map, same]
    exact h.distinct

theorem KeyedOk.filter (h : KeyedOk places ok key xs) (p : α → Bool) : KeyedOk places ok key (xs.filter p) :=
  ⟨(List.length_filter_le p xs).trans h.room, fun x hx => h.each x (List.mem_filter.1 hx).1,
    h.distinct.sublist (List.filter_sublist.map key)⟩

end Keyed

/-! ## The parts of the stored tables -/

/-- Every field of every stored table in its range and every constraint between fields, table by table (R172). -/
structure Tables.InRange (t : Tables) : Prop where
  address : addressOk t.ownAddress = true
  windows : windowsOk t.ownAddress t.ports.a.window t.ports.b.window t.ports.k.window = true
  timing : ∀ p, timingOk (t.ports.get p).replyTimeout (t.ports.get p).recoveryTime = true
  strict : (t.ports.get .k).strictStop = false
  traps : ∀ e ∈ t.traps.toList, e.ok = true
  hoists : ∀ h, (t.hoists.get h).ok = true
  calibration : ∀ h, (t.calibration.get h).all calOk = true
  profiles : ∀ p ∈ t.profiles.toList, p.all profileOk = true
  jigs : KeyedOk Config.jigPlaces Jig.ok Jig.id t.jigs
  zoneMap : t.zoneMap.ok = true
  bath : t.bath.fieldsOk = true
  limits : t.bath.limitsOk = true
  jobs : KeyedOk Config.jobPlaces Job.ok Job.number t.jobs
  balance : t.balance.ok = true
  groups : ∀ g, (t.groups.get g).ok = true

theorem Tables.ok_iff (t : Tables) : t.ok = true ↔ t.InRange := by
  simp only [Tables.ok, Bool.and_eq_true, Bool.not_eq_true', decide_eq_true_eq, List.all_eq_true, and_assoc,
    allDistinct_iff_nodup]
  constructor
  · rintro ⟨ha, hw, ta, tb, tk, hs, htr, h1, h2, c1, c2, hp, gl, ge, gd, hz, bf, bl, jl, je, jd, hb, g1, g2, g3, g4, g5⟩
    exact ⟨ha, hw, fun p => by cases p <;> assumption, hs, htr, fun h => by cases h <;> assumption,
      fun h => by cases h <;> assumption, hp, ⟨gl, ge, gd⟩, hz, bf, bl, ⟨jl, je, jd⟩, hb,
      fun g => by cases g <;> assumption⟩
  · intro h
    exact ⟨h.address, h.windows, h.timing .a, h.timing .b, h.timing .k, h.strict, h.traps, h.hoists .h1, h.hoists .h2,
      h.calibration .h1, h.calibration .h2, h.profiles, h.jigs.room, h.jigs.each, h.jigs.distinct, h.zoneMap, h.bath,
      h.limits, h.jobs.room, h.jobs.each, h.jobs.distinct, h.balance, h.groups .dip, h.groups .queue, h.groups .link,
      h.groups .bath, h.groups .device⟩

/-- A place of a table of fixed size written with an entry in its ranges. -/
theorem forall_mem_setIfInBounds {α : Type} {n : Nat} {v : Vector α n} {p : α → Prop} (i : Nat) {x : α}
    (hv : ∀ y ∈ v.toList, p y) (hx : p x) : ∀ y ∈ (v.setIfInBounds i x).toList, p y := by
  intro y hy
  rw [Vector.toList_setIfInBounds] at hy
  rcases List.mem_or_eq_of_mem_set hy with hy | rfl
  · exact hv y hy
  · exact hx

/-! ## The kettle balance (R138) -/

/-- What the range of the balance and its law say. -/
theorem Balance.ok_iff (b : Balance) : b.ok = true ↔
    (b.k : Int) = b.base + b.additions - b.removals - b.pickups + b.shortfall ∧ b.k ≤ 999999999 ∧ b.base ≤ 999999999
      ∧ b.unweighed ≤ 4294967295 := by
  simp only [Balance.ok, Bool.and_eq_true, decide_eq_true_eq, and_assoc]
  rfl

/-- The two cases of a debit in one: K falls by the mass down to 0, and the shortfall rises by the excess (R140). -/
theorem Balance.debit_eq (b : Balance) (m : Nat) :
    b.debit m = { b with k := b.k - m, shortfall := b.shortfall + (m - b.k) } := by
  unfold Balance.debit
  split
  · next h => rw [Nat.sub_eq_zero_of_le h, Nat.add_zero]
  · next h => rw [Nat.sub_eq_zero_of_le (Nat.le_of_not_le h)]

theorem Balance.ok_debit_removal {b : Balance} (m : Nat) (hb : b.ok = true) :
    ({ b with removals := b.removals + m }.debit m).ok = true := by
  rw [Balance.ok_iff] at hb
  rw [Balance.debit_eq, Balance.ok_iff]
  dsimp only
  omega

theorem Balance.ok_debit_pickup {b : Balance} (m : Nat) (hb : b.ok = true) :
    ({ b with pickups := b.pickups + m }.debit m).ok = true := by
  rw [Balance.ok_iff] at hb
  rw [Balance.debit_eq, Balance.ok_iff]
  dsimp only
  omega

theorem Balance.ok_addition {b : Balance} {m : Nat} (hb : b.ok = true) (hm : b.k + m ≤ 999999999) :
    Balance.ok { b with k := b.k + m, additions := b.additions + m } = true := by
  rw [Balance.ok_iff] at hb ⊢
  dsimp only
  omega

theorem Balance.ok_setTo {v : Nat} (hv : v ≤ 999999999) : (Balance.setTo v).ok = true := by
  rw [Balance.ok_iff]
  simp only [Balance.setTo, Balance.initial]
  omega

theorem Balance.ok_unweighed {b : Balance} {n : Nat} (hb : b.ok = true) (hn : n ≤ 4294967295) :
    Balance.ok { b with unweighed := n } = true := by
  rw [Balance.ok_iff] at hb ⊢
  dsimp only
  omega

/-! ## Jobs, jigs and zones -/

theorem Job.ok_iff (j : Job) : j.ok = true ↔
    jobNumberOk j.number = true ∧ bandOk j.rMin j.rMax j.holdCount = true ∧ j.dips ≤ 65535 ∧ j.steel ≤ 4294967295
      ∧ j.pickup ≤ 4294967295 ∧ j.underCount ≤ 65535 ∧ j.overCount ≤ 65535 ∧ j.unweighed ≤ 65535 := by
  simp only [Job.ok, Bool.and_eq_true, decide_eq_true_eq, and_assoc]
  rfl

theorem Jig.ok_iff (j : Jig) : j.ok = true ↔
    jigArgsOk j.id j.tare j.allowance = true ∧ j.dips ≤ 65535 ∧ j.zinc ≤ 4294967295 := by
  simp only [Jig.ok, Bool.and_eq_true, decide_eq_true_eq, and_assoc]
  rfl

theorem jigArgsOk_tare {n tare tare' allowance : Nat} (h : jigArgsOk n tare allowance = true) (ht : tare' ≤ 100000) :
    jigArgsOk n tare' allowance = true := by
  simp only [jigArgsOk, Bool.and_eq_true, decide_eq_true_eq] at h ⊢
  exact ⟨⟨h.1.1, ht⟩, h.2⟩

theorem satAdd_le (top a n : Nat) : satAdd top a n ≤ top := Nat.min_le_left _ _

/-- A NORMAL close saturates every count and total that it raises (R131, R146). -/
theorem Job.ok_closeNormal {j : Job} (sMass : Nat) (f : PickupFigures) (h : j.ok = true) :
    (j.closeNormal sMass f).ok = true := by
  rw [Job.ok_iff] at h ⊢
  obtain ⟨hn, hb, -, -, -, -, -, hu⟩ := h
  exact ⟨hn, hb, satAdd_le _ _ _, satAdd_le _ _ _, satAdd_le _ _ _, satAdd_le _ _ _, satAdd_le _ _ _, hu⟩

theorem Job.ok_closeUnweighed {j : Job} (h : j.ok = true) : j.closeUnweighed.ok = true := by
  rw [Job.ok_iff] at h ⊢
  obtain ⟨hn, hb, -, hs, hp, hl, ho, -⟩ := h
  exact ⟨hn, hb, satAdd_le _ _ _, hs, hp, hl, ho, satAdd_le _ _ _⟩

theorem Jig.ok_charge {j : Jig} (mass : Nat) (h : j.ok = true) : (j.charge mass).ok = true := by
  rw [Jig.ok_iff] at h ⊢
  exact ⟨jigArgsOk_tare h.1 (satAdd_le _ _ _), satAdd_le _ _ _, satAdd_le _ _ _⟩

theorem Jig.ok_fresh {n tare allowance : Nat} {st : JigStatus} (h : jigArgsOk n tare allowance = true) :
    Jig.ok ⟨n, tare, allowance, 0, 0, st⟩ = true := (Jig.ok_iff _).2 ⟨h, Nat.zero_le _, Nat.zero_le _⟩

/-- A map is in range where its zones are, and its other items. -/
theorem ZoneMap.ok_setZone {m : ZoneMap} {r : ZoneRec} (z : Zone) (hm : m.ok = true) (hr : r.ok = true) :
    (m.setZone z r).ok = true := by
  simp only [ZoneMap.ok, Bool.and_eq_true, and_assoc] at hm ⊢
  obtain ⟨h1, h2, h3, h4, rest⟩ := hm
  cases z
  · exact ⟨hr, h2, h3, h4, rest⟩
  · exact ⟨h1, hr, h3, h4, rest⟩
  · exact ⟨h1, h2, hr, h4, rest⟩
  · exact ⟨h1, h2, h3, hr, rest⟩

theorem ZoneMap.ok_zone {m : ZoneMap} (hm : m.ok = true) (z : Zone) : (m.zones.get z).ok = true := by
  simp only [ZoneMap.ok, Bool.and_eq_true, and_assoc] at hm
  obtain ⟨h1, h2, h3, h4, -⟩ := hm
  cases z <;> assumption

end Sys2Proof.Machine
end

section
/-! The NORMAL close as one change of the state (R144 to R146, R150, R151), and what the closes and the other events of a
dip do to the stored tables and to the records. -/

namespace Sys2Proof.Machine

/-! ## The NORMAL close (R144 to R146) -/

/-- The figures of a NORMAL close at this wet weight (R145). -/
def normalFigures (c : Context) (tg : TagArgs) (wWet : Int) (s : State) : PickupFigures :=
  pickupFigures (c.wDry.getD 0) (c.sMass.getD 0) wWet (allowanceOf tg.jig s) (bandOf tg.job s).1 (bandOf tg.job s).2

/-- The record of a NORMAL close (R150). -/
def normalRecord (c : Context) (tg : TagArgs) (hoist : RecordHoist) (wWet : Int) (f : PickupFigures) (s : State) :
    Record :=
  { dipRecord c tg hoist .normal s with
    wet := some ⟨wWet, f.pickup, f.jigShare, f.workShare, (bandOf tg.job s).1, (bandOf tg.job s).2⟩, ratio := f.ratio
    negPickup := f.negPickup, underBand := f.underBand, overBand := f.overBand }

/-- The stored tables after a NORMAL close: the job, the jig by its share and the kettle's balance charged (R146). -/
def normalTables (tg : TagArgs) (sMass : Nat) (f : PickupFigures) (s : State) : Tables :=
  { s.tables with
    jobs := s.tables.jobs.map (fun j => if j.number = tg.job then j.closeNormal sMass f else j)
    jigs := s.tables.jigs.map (fun j => if j.id = tg.jig then j.charge f.jigShare else j)
    balance := { s.tables.balance with pickups := s.tables.balance.pickups + f.pickup }.debit f.pickup }

theorem closeNormal_eq {c : Context} {tg : TagArgs} {wWet : Int} {s : State} {f : PickupFigures}
    (hf : normalFigures c tg wWet s = f) (hoist : RecordHoist) : closeNormal c tg hoist wWet s = { s with
      records := s.records ++ [normalRecord c tg hoist wWet f s]
      nextRecord := s.nextRecord + 1
      tables := normalTables tg (c.sMass.getD 0) f s
      notices := { s.notices with
        dipClosed := true
        pickupOutOfBand := s.notices.pickupOutOfBand || (f.underBand || f.overBand)
        jobHeld := s.notices.jobHeld
          || ((findJob tg.job s).map (fun j => turnsHeld j (c.sMass.getD 0) f)).getD false
        shortImmersion := s.notices.shortImmersion || c.flags.shortImmersion
        recordQueueHigh := s.notices.recordQueueHigh || s.records.length == 39
        balanceShortfall := s.notices.balanceShortfall || decide (s.tables.balance.k < f.pickup) } } := by
  have high : (s.records.length + 1 == Config.recordsHigh) = (s.records.length == 39) :=
    Bool.eq_iff_iff.2 (by simp [Config.recordsHigh])
  subst hf
  simp only [closeNormal, writeRecord, setNoticeIf_eq, high]
  rfl

/-- The ratio of a NORMAL record is there for S > 0 alone, and is at most 999 (R145, R150). -/
theorem ratioOk_normalRecord {c : Context} {tg : TagArgs} {wWet : Int} {s : State} {f : PickupFigures}
    (hf : normalFigures c tg wWet s = f) (hoist : RecordHoist) :
    (normalRecord c tg hoist wWet f s).ratioOk = true := by
  subst hf
  have ratio : (normalRecord c tg hoist wWet (normalFigures c tg wWet s) s).ratio
      = pickupRatio (normalFigures c tg wWet s).workShare (c.sMass.getD 0) := rfl
  have mass : (normalRecord c tg hoist wWet (normalFigures c tg wWet s) s).sMass = c.sMass.getD 0 := rfl
  have outcome : (normalRecord c tg hoist wWet (normalFigures c tg wWet s) s).outcome = .normal := rfl
  rw [Record.ratioOk, ratio, pickupRatio, mass, outcome]
  split
  · next x hx =>
    obtain ⟨h0, rfl⟩ : ¬ c.sMass.getD 0 = 0 ∧ min 999 _ = x := by simpa using hx
    simp
    omega
  · rfl

theorem ratioOk_dipRecord (c : Context) (tg : TagArgs) (hoist : RecordHoist) (outcome : DipOutcome) (s : State) :
    (dipRecord c tg hoist outcome s).ratioOk = true := rfl

/-! ## The charges of a close (R146, R147) -/

theorem Tables.InRange.normalTables {s : State} (h : s.tables.InRange) (tg : TagArgs) (sMass : Nat)
    (f : PickupFigures) : (normalTables tg sMass f s).InRange :=
  { h with
    jobs := h.jobs.modify tg.job (fun _ => rfl) (fun _ hj => Job.ok_closeNormal sMass f hj)
    jigs := h.jigs.modify tg.jig (fun _ => rfl) (fun _ hj => Jig.ok_charge f.jigShare hj)
    balance := Balance.ok_debit_pickup f.pickup h.balance }

theorem Tables.InRange.unweighedTables {s : State} (h : s.tables.InRange) (tg : TagArgs) :
    (unweighedTables tg s).InRange :=
  { h with
    jobs := h.jobs.modify tg.job (fun _ => rfl) (fun _ hj => Job.ok_closeUnweighed hj)
    jigs := h.jigs.modify tg.jig (fun _ => rfl) (fun _ hj => Jig.ok_charge (allowanceOf tg.jig s) hj)
    balance := Balance.ok_unweighed h.balance (Nat.min_le_left _ _) }

/-! ## What keeps the tables and the records in order -/

/-- `t` comes after `s` with the stored tables in their ranges if they were, and with no new record whose ratio is not as
R150 says. -/
structure KeepsTables (s t : State) : Prop where
  tables : s.tables.InRange → t.tables.InRange
  records : ∀ r ∈ t.records, r ∈ s.records ∨ r.ratioOk = true

theorem KeepsTables.trans {s t u : State} (h : KeepsTables s t) (h' : KeepsTables t u) : KeepsTables s u :=
  ⟨fun ht => h'.tables (h.tables ht), fun r hr => (h'.records r hr).elim (h.records r) .inr⟩

/-- The later change named first, so that its own form says what came before it. -/
theorem KeepsTables.after {s t u : State} (h' : KeepsTables t u) (h : KeepsTables s t) : KeepsTables s u := h.trans h'

/-- A change of the tables alone. -/
theorem KeepsTables.of_tables {s t : State} (ht : s.tables.InRange → t.tables.InRange) (hr : t.records = s.records) :
    KeepsTables s t := ⟨ht, fun _ h => .inl (hr ▸ h)⟩

/-- A change of other parts. -/
theorem KeepsTables.of_same {s t : State} (ht : t.tables = s.tables) (hr : t.records = s.records) : KeepsTables s t :=
  .of_tables (fun h => by rwa [ht]) hr

theorem KeepsTables.refl (s : State) : KeepsTables s s := .of_same rfl rfl

/-- A close: the tables as its charges leave them, and its record the newest. -/
theorem KeepsTables.of_close {s t : State} {r : Record} (ht : s.tables.InRange → t.tables.InRange)
    (hr : t.records = s.records ++ [r]) (ho : r.ratioOk = true) : KeepsTables s t := by
  refine ⟨ht, fun x hx => ?_⟩
  rw [hr] at hx
  rcases List.mem_append.1 hx with hx | hx
  · exact .inl hx
  · exact .inr (by rwa [List.mem_singleton.1 hx])

theorem Aside.keepsTables {s t : State} (h : Aside s t) : KeepsTables s t := .of_same h.tables h.records

theorem PollOnly.keepsTables {s t : State} (h : PollOnly s t) : KeepsTables s t := by
  obtain ⟨l, n, u, b, _, rfl⟩ := h
  exact .of_same rfl rfl

theorem ClaimsOnly.keepsTables {s t : State} (h : ClaimsOnly s t) : KeepsTables s t := by
  obtain ⟨o, w, c, rfl⟩ := h
  exact .of_same rfl rfl

theorem keepsTables_modContexts (ms : List Hoist) (f : Context → Context) (s : State) :
    KeepsTables s (modContexts ms f s) := (modContexts_claimsOnly ms f s).keepsTables

theorem keepsTables_setNoticeIf (c : Bool) (n : Notice) (s : State) : KeepsTables s (setNoticeIf c n s) :=
  (aside_setNoticeIf c n s).keepsTables

/-! ## The closes (R144 to R148) -/

theorem keepsTables_closeNormal (c : Context) (tg : TagArgs) (hoist : RecordHoist) (wWet : Int) (s : State) :
    KeepsTables s (closeNormal c tg hoist wWet s) := by
  rw [closeNormal_eq rfl]
  exact .of_close (fun h => h.normalTables tg _ _) rfl (ratioOk_normalRecord rfl hoist)

theorem keepsTables_closeUnweighed (c : Context) (tg : TagArgs) (hoist : RecordHoist) (s : State) :
    KeepsTables s (closeUnweighed c tg hoist s) := by
  rw [closeUnweighed_eq]
  exact .of_close (fun h => h.unweighedTables tg) rfl (ratioOk_dipRecord _ _ _ _ _)

theorem keepsTables_closeAborted (c : Context) (tg : TagArgs) (hoist : RecordHoist) (s : State) :
    KeepsTables s (closeAborted c tg hoist s) := by
  rw [closeAborted_eq]
  refine .of_close (fun h => ?_) rfl (ratioOk_dipRecord _ _ _ _ _)
  dsimp only
  split
  · exact h
  · exact h.unweighedTables tg

/-! ## The sample at a context (R76) -/

theorem keepsTables_enterWeighing (ms : List Hoist) (pr : Profile) (s : State) :
    KeepsTables s (enterWeighing ms pr s) := by
  obtain ⟨ch, h⟩ := enterWeighing_eq ms pr s
  rw [h]
  exact KeepsTables.after (keepsTables_modContexts _ _ _) (.of_same rfl rfl)

theorem keepsTables_enterDraining (ms : List Hoist) (pr : Profile) (short : Bool) (s : State) :
    KeepsTables s (enterDraining ms pr short s) := by
  unfold enterDraining
  split
  · exact (keepsTables_modContexts _ _ _).trans (keepsTables_enterWeighing _ _ _)
  · exact keepsTables_modContexts _ _ _

theorem keepsTables_finishDip (h : Hoist) (s : State) : KeepsTables s (finishDip h s) :=
  (finishDip_claimsOnly h s).keepsTables

theorem keepsTables_dipNormal (h : Hoist) (wWet : Int) (s : State) : KeepsTables s (dipNormal h wWet s) := by
  unfold dipNormal
  split
  · exact (keepsTables_closeNormal _ _ _ _ s).trans (keepsTables_finishDip h _)
  · exact .refl s

/-- A sample in WEIGHING releases the claim above the approach height, and closes NORMAL at a settled weight (R89). -/
theorem keepsTables_sampleWeighing (h : Hoist) (s : State) : KeepsTables s (sampleWeighing h s) := by
  have wet (u : State) : KeepsTables u (match dipFiltered h u with
      | some f => if dipSettled h u then dipNormal h f u else u
      | none => u) := by
    split
    · split
      · exact keepsTables_dipNormal h _ u
      · exact .refl u
    · exact .refl u
  refine KeepsTables.after (wet _) ?_
  split
  · split
    · exact (releaseClaim_claimsOnly h s).keepsTables
    · exact .refl s
  · exact .refl s

/-- The tare that a jig weighing sets is held within the range of a tare (R64, R95). -/
theorem keepsTables_completeJigWeigh (h : Hoist) (f : Int) (s : State) : KeepsTables s (completeJigWeigh h f s) := by
  refine .of_tables (fun ht => { ht with jigs := ht.jigs.modify _ (fun _ => rfl) fun j hj => ?_ }) rfl
  have tare := clampInt_mem (lo := 0) (hi := Config.tareMax) f (by decide)
  have bound : (Config.tareMax : Int) = 100000 := rfl
  exact Jig.ok_fresh (jigArgsOk_tare ((Jig.ok_iff j).1 hj).1 (by omega))

theorem keepsTables_sampleAbandoned (h : Hoist) (s : State) : KeepsTables s (sampleAbandoned h s) := by
  have left (o : Owner) (c : Context) : KeepsTables s (releaseZones o (s.setContext h c)) :=
    KeepsTables.after (releaseZones_claimsOnly o _).keepsTables (.of_same rfl rfl)
  unfold sampleAbandoned
  split
  · dsimp only
    split
    · split
      · split
        · exact .of_same rfl rfl
        · exact left _ _
      · exact left _ _
    · exact .refl s
  · exact .refl s

/-- Of the transition tests only those of JIG_WEIGH and WEIGHING touch a stored table or a record. -/
theorem keepsTables_transitionTest (h : Hoist) (s : State) : KeepsTables s (transitionTest h s) := by
  have moved (ms : List Hoist) (f : Context → Context) := keepsTables_modContexts ms f s
  unfold transitionTest
  split
  case h_2 =>
    unfold sampleJigWeigh
    split
    · split
      · exact keepsTables_completeJigWeigh h _ s
      · exact .refl s
    · exact .refl s
  case h_3 =>
    unfold sampleTagged
    split
    · split
      · split <;> exact moved _ _
      · exact .refl s
    · exact .refl s
  case h_4 =>
    unfold sampleReady
    split
    · split
      · exact (submitClaim_claimsOnly _ _ _ s).keepsTables
      · exact .refl s
    · exact .refl s
  case h_6 =>
    unfold sampleLowering
    split
    · split
      · exact moved _ _
      · exact .refl s
    · exact .refl s
  case h_7 =>
    unfold sampleEntering
    split
    · split
      · exact moved _ _
      · split
        · exact keepsTables_enterDraining _ _ _ s
        · exact .refl s
    · exact .refl s
  case h_8 =>
    unfold sampleImmersed
    split
    · split
      · exact moved _ _
      · exact .refl s
    · exact .refl s
  case h_9 =>
    unfold sampleWithdrawing
    split
    · split
      · exact moved _ _
      · split
        · exact keepsTables_enterDraining _ _ _ s
        · exact .refl s
    · exact .refl s
  case h_11 => exact keepsTables_sampleWeighing h s
  case h_12 => exact keepsTables_sampleAbandoned h s
  all_goals exact .refl s

theorem keepsTables_inBathUpdates (h : Hoist) (found : DipState) (s : State) :
    KeepsTables s (inBathUpdates h found s) := by
  unfold inBathUpdates
  split
  · dsimp only
    split
    · exact (keepsTables_modContexts _ _ s).trans
        ((keepsTables_setNoticeIf _ _ _).trans (keepsTables_setNoticeIf _ _ _))
    · exact .refl s
  · exact .refl s

theorem keepsTables_markOverload (h : Hoist) (s : State) : KeepsTables s (markOverload h s) := by
  unfold markOverload
  split
  · exact keepsTables_modContexts _ _ s
  · exact .refl s

theorem keepsTables_syncPollMode (s : State) : KeepsTables s (syncPollMode s) := (syncPollMode_pollOnly s).keepsTables

theorem keepsTables_contextSample (h : Hoist) (s : State) : KeepsTables s (contextSample h s) :=
  ((keepsTables_markOverload h s).trans (keepsTables_transitionTest h _)).trans
    ((keepsTables_inBathUpdates h _ _).trans (keepsTables_syncPollMode _))

/-! ## The timers and the abort (R88, R90, R92) -/

theorem keepsTables_drainExpired (h : Hoist) (s : State) : KeepsTables s (drainExpired h s) := by
  unfold drainExpired
  split
  · exact (keepsTables_enterWeighing _ _ s).trans (keepsTables_syncPollMode _)
  · exact .refl s

theorem keepsTables_weighExpired (h : Hoist) (s : State) : KeepsTables s (weighExpired h s) := by
  unfold weighExpired
  split
  · exact ((keepsTables_closeUnweighed _ _ _ s).trans (keepsTables_finishDip h _)).trans (keepsTables_syncPollMode _)
  · exact .refl s

theorem keepsTables_abortDip (h : Hoist) (s : State) : KeepsTables s (abortDip h s) := by
  unfold abortDip
  split
  · refine KeepsTables.trans ?_ (keepsTables_syncPollMode _)
    refine KeepsTables.trans ?_ (keepsTables_modContexts _ _ _)
    exact (keepsTables_modContexts _ _ s).trans (keepsTables_closeAborted _ _ _ _)
  · exact .refl s

end Sys2Proof.Machine
end

section
/-! The owning rules of the management requests: each keeps the stored tables in their ranges, by the checks that it makes
(R172), and the save in flight as it is, but for the two that start one (R46, R173). -/

namespace Sys2Proof.Machine

/-! ## What a rule keeps -/

/-- `t` comes after `s` with the tables and the records in order, and with the save in flight as it was. -/
structure KeepsStored (s t : State) : Prop extends KeepsTables s t where
  save : t.save = s.save

/-- A change of the tables alone. -/
theorem KeepsStored.of_tables {s t : State} (ht : s.tables.InRange → t.tables.InRange) (hr : t.records = s.records)
    (hs : t.save = s.save) : KeepsStored s t := ⟨.of_tables ht hr, hs⟩

/-- A change of other parts. -/
theorem KeepsStored.of_same {s t : State} (ht : t.tables = s.tables) (hr : t.records = s.records)
    (hs : t.save = s.save) : KeepsStored s t := ⟨.of_same ht hr, hs⟩

theorem KeepsStored.refl (s : State) : KeepsStored s s := .of_same rfl rfl rfl

/-- The stored tables replaced. -/
theorem keepsStored_setTables {s : State} {x : Tables} (h : s.tables.InRange → x.InRange) :
    KeepsStored s (accept (s.setTables x)).state := .of_tables h rfl rfl

/-- A check before the rest of a rule. -/
theorem keepsStored_check {c : Prop} [Decidable c] {st : Status} {s : State} {r : Answer}
    (h : ¬ c → KeepsStored s r.state) : KeepsStored s (if c then refuse st s else r).state := by
  split
  · exact .refl s
  · next hc => exact h hc

/-- The same of a check that must hold. -/
theorem keepsStored_checked {c : Prop} [Decidable c] {st : Status} {s : State} {r : Answer}
    (h : c → KeepsStored s r.state) : KeepsStored s (if c then r else refuse st s).state := by
  split
  · next hc => exact h hc
  · exact .refl s

theorem keepsStored_readPage {s t : State} (page : Nat) (items : List Item) (h : KeepsStored s t) :
    KeepsStored s (readPage page items s t).state := by
  unfold readPage
  split
  · exact h
  · exact .refl s

/-! ## The link and the filter (R3, R15, R27, R29, R169) -/

/-- SET ADDRESS takes an address in range that no window holds (R169). -/
theorem keepsStored_setAddressRule (a : Nat) (s : State) : KeepsStored s (setAddressRule a s).state := by
  refine keepsStored_checked fun hc => keepsStored_setTables fun h => ?_
  simp only [Bool.and_eq_true, Bool.not_eq_true', and_assoc] at hc
  obtain ⟨ha, outA, outB, outK⟩ := hc
  have hw := h.windows
  refine { h with address := ha, windows := ?_ }
  simp only [windowsOk, Bool.and_eq_true, Bool.not_eq_true', and_assoc] at hw ⊢
  obtain ⟨bA, bB, bK, -, -, -, apart⟩ := hw
  exact ⟨bA, bB, bK, outA, outB, outK, apart⟩

theorem keepsStored_loadWindowsRule (wa wb wk : Window) (s : State) :
    KeepsStored s (loadWindowsRule wa wb wk s).state := by
  refine keepsStored_checked fun hc => keepsStored_setTables fun h => ?_
  refine { h with windows := hc, timing := fun p => ?_ }
  cases p
  · exact h.timing .a
  · exact h.timing .b
  · exact h.timing .k

/-- SET PORT TIMING takes times in range, and strict stop for no port but A and B (R15). -/
theorem keepsStored_setPortTimingRule (port reply recovery strict : Nat) (s : State) :
    KeepsStored s (setPortTimingRule port reply recovery strict s).state := by
  unfold setPortTimingRule
  split
  · next p on _ _ =>
    refine keepsStored_checked fun hc => keepsStored_setTables fun h => ?_
    simp only [Bool.and_eq_true, Bool.not_eq_true'] at hc
    obtain ⟨times, strict⟩ := hc
    refine { h with windows := ?_, timing := fun r => ?_, strict := ?_ }
    · cases p <;> exact h.windows
    · dsimp only
      rw [PerPort.get_set]
      split
      · exact times
      · exact h.timing r
    · dsimp only
      rw [PerPort.get_set]
      split
      · next hk => simpa [← hk] using strict
      · exact h.strict
  · exact .refl s

/-- The fields of a trap entry are in range where LOAD TRAP gives one (R23, R27). -/
theorem trapOf_ok {x : TrapArgs} {e : TrapEntry} (h : trapOf x = some e) : e.ok = true := by
  unfold trapOf at h
  split at h
  · dsimp only at h
    split at h
    · next ho => exact Option.some.inj h ▸ ho
    · cases h
  · cases h

theorem keepsStored_loadTrapRule (entry : Nat) (x : TrapArgs) (s : State) :
    KeepsStored s (loadTrapRule entry x s).state := by
  unfold loadTrapRule
  split
  · next e _ he =>
    exact .of_tables (fun h => { h with traps := forall_mem_setIfInBounds _ h.traps (trapOf_ok he) }) rfl rfl
  · exact .refl s

theorem keepsStored_loadHoistSettingsRule (n : Nat) (x : HoistArgs) (s : State) :
    KeepsStored s (loadHoistSettingsRule n x s).state := by
  unfold loadHoistSettingsRule
  split
  · exact .refl s
  · next x _ =>
    refine keepsStored_check fun hv => keepsStored_check fun _ => ?_
    refine .of_tables (fun h => { h with hoists := fun y => ?_ }) rfl rfl
    simp only [accept, State.setMotion_tables, State.setTables_tables, PerHoist.get_set]
    split
    · simpa using hv
    · exact h.hoists y

/-! ## Calibration, profiles and jigs (R45, R62, R63, R65 to R67) -/

theorem keepsStored_loadCalibrationRule (n : Nat) (x : CalRecord) (s : State) :
    KeepsStored s (loadCalibrationRule n x s).state := by
  unfold loadCalibrationRule
  split
  · exact .refl s
  · refine keepsStored_check fun _ => keepsStored_check fun _ => keepsStored_check fun hx => ?_
    refine .of_tables (fun h => { h with calibration := fun y => ?_ }) rfl rfl
    simp only [accept, State.setChannel_tables, State.setTables_tables, PerHoist.get_set]
    split
    · simpa using hx
    · exact h.calibration y

theorem keepsStored_loadProfileRule (n : Nat) (x : Profile) (s : State) :
    KeepsStored s (loadProfileRule n x s).state := by
  refine keepsStored_check fun _ => keepsStored_check fun hx => keepsStored_check fun _ => ?_
  refine keepsStored_setTables fun h => { h with profiles := forall_mem_setIfInBounds _ h.profiles ?_ }
  simpa using hx

theorem keepsStored_removeProfileRule (n : Nat) (s : State) : KeepsStored s (removeProfileRule n s).state := by
  refine keepsStored_check fun _ => keepsStored_check fun _ => keepsStored_check fun _ => ?_
  exact keepsStored_setTables fun h => { h with profiles := forall_mem_setIfInBounds _ h.profiles rfl }

/-- The jig of a number changed. -/
theorem keepsStored_modJig {s : State} {f : Jig → Jig} (n : Nat) (hk : ∀ j, (f j).id = j.id)
    (ho : ∀ j, j.ok = true → (f j).ok = true) : KeepsStored s (accept (modJig n f s)).state :=
  keepsStored_setTables fun h => { h with jigs := h.jigs.modify n hk ho }

/-- LOAD JIG sets a tare and an allowance in range with fresh counts, of a jig held or of a new one in a free place (R65). -/
theorem keepsStored_loadJigRule (n tare allowance : Nat) (s : State) :
    KeepsStored s (loadJigRule n tare allowance s).state := by
  refine keepsStored_check fun hx => ?_
  rw [Bool.not_eq_true', Bool.not_eq_false] at hx
  split
  · refine keepsStored_check fun _ => keepsStored_modJig n (fun _ => rfl) fun j hj => Jig.ok_fresh ?_
    have ha := ((Jig.ok_iff j).1 hj).1
    simp only [jigArgsOk, Bool.and_eq_true] at hx ha ⊢
    exact ⟨⟨ha.1.1, hx.1.2⟩, hx.2⟩
  · next hn =>
    refine keepsStored_check fun hp => keepsStored_setTables fun h => { h with jigs := ?_ }
    exact h.jigs.append hp (Jig.ok_fresh hx) hn

theorem keepsStored_withdrawJigRule (n : Nat) (s : State) : KeepsStored s (withdrawJigRule n s).state :=
  keepsStored_check fun _ => keepsStored_check fun _ => keepsStored_modJig n (fun _ => rfl) fun _ hj => hj

theorem keepsStored_returnJigRule (n : Nat) (s : State) : KeepsStored s (returnJigRule n s).state :=
  keepsStored_check fun _ => keepsStored_modJig n (fun _ => rfl) fun _ hj => hj

theorem keepsStored_removeJigRule (n : Nat) (s : State) : KeepsStored s (removeJigRule n s).state :=
  keepsStored_check fun _ => keepsStored_check fun _ =>
    keepsStored_setTables fun h => { h with jigs := h.jigs.filter _ }

/-! ## The zone map, the bath and the notice groups (R102 to R104, R119, R162) -/

theorem zoneMapOf_ok {x : ZoneMapArgs} {m : ZoneMap} (h : zoneMapOf x = some m) : m.ok = true := by
  unfold zoneMapOf at h
  split at h
  · dsimp only at h
    split at h
    · next ho => exact Option.some.inj h ▸ ho
    · cases h
  · cases h

theorem keepsStored_loadZoneMapRule (x : ZoneMapArgs) (s : State) : KeepsStored s (loadZoneMapRule x s).state := by
  refine keepsStored_check fun _ => ?_
  split
  · next hm => exact keepsStored_setTables fun h => { h with zoneMap := zoneMapOf_ok hm }
  · exact .refl s

/-- SET DROSS CEILING keeps the ceiling from its zone's floor to 10,000 mm (R103). -/
theorem keepsStored_setDrossCeilingRule (n : Nat) (ceiling : Int) (s : State) :
    KeepsStored s (setDrossCeilingRule n ceiling s).state := by
  unfold setDrossCeilingRule
  split
  · exact .refl s
  · next z _ =>
    refine keepsStored_check fun _ => keepsStored_check fun hc => keepsStored_setTables fun h => ?_
    refine { h with zoneMap := ZoneMap.ok_setZone z h.zoneMap ?_ }
    have hz := ZoneMap.ok_zone h.zoneMap z
    simp only [ZoneRec.ok, Bool.and_eq_true, decide_eq_true_eq] at hz ⊢
    exact ⟨⟨hz.1.1, by omega⟩, by omega⟩

theorem keepsStored_setZoneServiceRule (n value : Nat) (s : State) :
    KeepsStored s (setZoneServiceRule n value s).state := by
  unfold setZoneServiceRule
  split
  · next z _ _ _ =>
    refine keepsStored_check fun _ => keepsStored_setTables fun h => ?_
    exact { h with zoneMap := ZoneMap.ok_setZone z h.zoneMap (ZoneMap.ok_zone h.zoneMap z) }
  · exact .refl s

theorem PollOnly.save {s t : State} (h : PollOnly s t) : t.save = s.save := by
  obtain ⟨l, n, u, b, _, rfl⟩ := h
  rfl

/-- Of the effect of LOAD BATH SETTINGS only the settings themselves are stored (R119). -/
theorem keepsStored_loadBathSettingsRule (x : BathArgs) (s : State) :
    KeepsStored s (loadBathSettingsRule x s).state := by
  refine keepsStored_check fun _ => keepsStored_check fun hf => keepsStored_check fun hl => ?_
  have after := fun t : State => (aside_redateFigures (bathSettingsOf x).staleTime t).trans
    (aside_changeBathStation s.tables.bath.station (bathSettingsOf x).station _)
  refine ⟨KeepsTables.after (after _).keepsTables (.of_tables (fun h => ?_) rfl), ?_⟩
  · exact { h with bath := by simpa using hf, limits := by simpa using hl }
  · have redated (n : Nat) (u : State) : (redateFigures n u).save = u.save := by
      unfold redateFigures
      dsimp only
      split
      · exact setNoticeIf_save _ _ _
      · rfl
    have station (a b : Option Nat) (u : State) : (changeBathStation a b u).save = u.save := by
      unfold changeBathStation
      split
      · exact (pollDue_pollOnly u).save
      · rfl
      · rfl
    exact (station _ _ _).trans (redated _ _)

theorem keepsStored_setNoticeLevelsRule (group level enable : Nat) (s : State) :
    KeepsStored s (setNoticeLevelsRule group level enable s).state := by
  unfold setNoticeLevelsRule
  split
  · refine keepsStored_checked fun hl => keepsStored_setTables fun h => { h with groups := fun g => ?_ }
    dsimp only
    rw [PerGroup.get_set]
    split
    · exact decide_eq_true hl
    · exact h.groups g
  · exact .refl s

/-! ## Jobs and the kettle balance (R131 to R142) -/

/-- The job of a number changed. -/
theorem keepsStored_modJob {s : State} {f : Job → Job} (n : Nat) (hk : ∀ j, (f j).number = j.number)
    (ho : ∀ j, j.ok = true → (f j).ok = true) : KeepsStored s (accept (modJob n f s)).state :=
  keepsStored_setTables fun h => { h with jobs := h.jobs.modify n hk ho }

/-- OPEN JOB adds a job in range, of a new number, in a free place (R132). -/
theorem keepsStored_openJobRule (n rMin rMax hold : Nat) (s : State) :
    KeepsStored s (openJobRule n rMin rMax hold s).state := by
  refine keepsStored_check fun hx => keepsStored_check fun hn => keepsStored_check fun hp => ?_
  have zero (top : Nat) : 0 ≤ top := Nat.zero_le top
  obtain ⟨number, band⟩ : jobNumberOk n = true ∧ bandOk rMin rMax hold = true := by simpa using hx
  rw [Bool.not_eq_true, Option.isSome_eq_false_iff, Option.isNone_iff_eq_none] at hn
  refine keepsStored_setTables fun h => { h with jobs := h.jobs.append hp ?_ hn }
  exact (Job.ok_iff _).2 ⟨number, band, zero _, zero _, zero _, zero _, zero _, zero _⟩

theorem keepsStored_setJobBandRule (n rMin rMax hold : Nat) (s : State) :
    KeepsStored s (setJobBandRule n rMin rMax hold s).state := by
  refine keepsStored_check fun hx => ?_
  split
  · exact .refl s
  · refine keepsStored_check fun _ => keepsStored_modJob n (fun _ => rfl) fun j hj => ?_
    obtain ⟨number, -, counts⟩ := (Job.ok_iff j).1 hj
    exact (Job.ok_iff _).2 ⟨number, by simpa using hx, counts⟩

/-- RESUME JOB clears the over count (R134). -/
theorem keepsStored_resumeJobRule (n : Nat) (s : State) : KeepsStored s (resumeJobRule n s).state := by
  unfold resumeJobRule
  split
  · exact .refl s
  · refine keepsStored_check fun _ => keepsStored_modJob n (fun _ => rfl) fun j hj => ?_
    obtain ⟨number, band, hd, hs, hp, hu, -, hw⟩ := (Job.ok_iff j).1 hj
    exact (Job.ok_iff _).2 ⟨number, band, hd, hs, hp, hu, Nat.zero_le _, hw⟩

theorem keepsStored_closeJobRule (n : Nat) (s : State) : KeepsStored s (closeJobRule n s).state :=
  keepsStored_check fun _ => keepsStored_check fun _ => keepsStored_modJob n (fun _ => rfl) fun _ hj => hj

theorem keepsStored_releaseJobRule (n : Nat) (s : State) : KeepsStored s (releaseJobRule n s).state := by
  unfold releaseJobRule
  split
  · exact .refl s
  · exact keepsStored_check fun _ => keepsStored_setTables fun h => { h with jobs := h.jobs.filter _ }

theorem keepsStored_zincAddedRule (mass : Nat) (s : State) : KeepsStored s (zincAddedRule mass s).state := by
  refine keepsStored_check fun _ => keepsStored_check fun hm => keepsStored_setTables fun h => ?_
  exact { h with balance := Balance.ok_addition h.balance (Nat.le_of_not_lt hm) }

theorem keepsStored_removalRule (mass : Nat) (s : State) : KeepsStored s (removalRule mass s).state := by
  refine keepsStored_check fun _ => .of_tables (fun h => ?_) (by simp [accept]) (by simp [accept])
  rw [accept, setNoticeIf_tables]
  exact { h with balance := Balance.ok_debit_removal mass h.balance }

theorem keepsStored_setBalanceRule (value : Nat) (s : State) : KeepsStored s (setBalanceRule value s).state :=
  keepsStored_check fun hv => keepsStored_setTables fun h =>
    { h with balance := Balance.ok_setTo (Nat.le_of_not_lt hv) }

theorem keepsStored_setBalanceToLevelRule (s : State) : KeepsStored s (setBalanceToLevelRule s).state := by
  unfold setBalanceToLevelRule
  split
  · exact .refl s
  · exact keepsStored_check fun _ => keepsStored_check fun hv => keepsStored_setTables fun h =>
      { h with balance := Balance.ok_setTo (Nat.le_of_not_lt hv) }

/-! ## The other rules -/

theorem keepsStored_tagLoadRule (x : TagArgs) (s : State) : KeepsStored s (tagLoadRule x s).state := by
  unfold tagLoadRule
  split
  · exact .refl s
  · next h _ =>
    split
    · exact .of_same rfl rfl rfl
    · obtain ⟨c, o, ht, _⟩ := takeTag_contexts h x (clearPermit h s)
      rw [ht]
      exact .of_same rfl rfl rfl

theorem keepsStored_cancelLoadRule (n : Nat) (s : State) : KeepsStored s (cancelLoadRule n s).state := by
  have cancelled (h : Hoist) : KeepsStored s (accept (cancelTag h s)).state := by
    obtain ⟨o, w, c, e⟩ := cancelTag_claimsOnly h s
    rw [e]
    exact .of_same rfl rfl rfl
  unfold cancelLoadRule
  split
  · exact .refl s
  · split
    case h_2 | h_3 | h_4 => exact cancelled _
    all_goals exact .refl s

/-- TAKE RECORD leaves the records that were not the oldest (R152). -/
theorem keepsStored_takeRecordRule (s : State) : KeepsStored s (takeRecordRule s).state := by
  unfold takeRecordRule
  split
  · exact .refl s
  · next hr => exact ⟨⟨id, fun r h => .inl (hr ▸ List.mem_cons_of_mem _ h)⟩, rfl⟩

/-- Every owning rule but the two that start a save. Those cited by no lemma above write ports, channels, motion records,
contexts or notices, or nothing. -/
theorem ruleOf_keepsStored {i : Instr} (hs : ∀ q, i ≠ .saveTables q) (hl : ∀ q, i ≠ .lockCalibration q) (s : State) :
    KeepsStored s (ruleOf i s).state := by
  cases i with
  | saveTables q => exact absurd rfl (hs q)
  | lockCalibration q => exact absurd rfl (hl q)
  | setAddress q a => exact keepsStored_setAddressRule a s
  | loadWindows q wa wb wk => exact keepsStored_loadWindowsRule wa wb wk s
  | setPortTiming q port reply recovery strict => exact keepsStored_setPortTimingRule port reply recovery strict s
  | loadTrap q entry x => exact keepsStored_loadTrapRule entry x s
  | loadHoistSettings q n x => exact keepsStored_loadHoistSettingsRule n x s
  | loadCalibration q n x => exact keepsStored_loadCalibrationRule n x s
  | loadProfile q n x => exact keepsStored_loadProfileRule n x s
  | removeProfile q n => exact keepsStored_removeProfileRule n s
  | loadJig q n tare allowance => exact keepsStored_loadJigRule n tare allowance s
  | withdrawJig q n => exact keepsStored_withdrawJigRule n s
  | returnJig q n => exact keepsStored_returnJigRule n s
  | removeJig q n => exact keepsStored_removeJigRule n s
  | tagLoad q x => exact keepsStored_tagLoadRule x s
  | cancelLoad q n => exact keepsStored_cancelLoadRule n s
  | loadZoneMap q x => exact keepsStored_loadZoneMapRule x s
  | setDrossCeiling q n ceiling => exact keepsStored_setDrossCeilingRule n ceiling s
  | setZoneService q n value => exact keepsStored_setZoneServiceRule n value s
  | loadBathSettings q x => exact keepsStored_loadBathSettingsRule x s
  | openJob q n rMin rMax hold => exact keepsStored_openJobRule n rMin rMax hold s
  | setJobBand q n rMin rMax hold => exact keepsStored_setJobBandRule n rMin rMax hold s
  | resumeJob q n => exact keepsStored_resumeJobRule n s
  | closeJob q n => exact keepsStored_closeJobRule n s
  | releaseJob q n => exact keepsStored_releaseJobRule n s
  | zincAdded q mass => exact keepsStored_zincAddedRule mass s
  | drossRemoved q mass | ashRemoved q mass => exact keepsStored_removalRule mass s
  | setBalance q value => exact keepsStored_setBalanceRule value s
  | setBalanceToLevel q => exact keepsStored_setBalanceToLevelRule s
  | takeRecord q => exact keepsStored_takeRecordRule s
  | setNoticeLevels q group level enable => exact keepsStored_setNoticeLevelsRule group level enable s
  | readStatus | readMotion | readZones | readBath | readBalance | readQueue =>
    simp only [ruleOf, readStatusRule, readMotionRule, readZonesRule, readBathRule, readBalanceRule, readQueueRule]
    exact keepsStored_readPage _ _ (.of_same rfl rfl rfl)
  | readPortStatus | readTrap | readWeight | readProfile | readJig | readContext | readJob =>
    simp only [ruleOf, readPortStatusRule, readTrapRule, readWeightRule, readProfileRule, readJigRule, readContextRule,
      readJobRule, readPage]
    repeat' split
    all_goals exact .of_same rfl rfl rfl
  | setOperatorCap | rezeroHook | setMaintenancePermit | weighJig | peekRecord | clearNotices =>
    simp only [ruleOf, setOperatorCapRule, rezeroHookRule, setMaintenancePermitRule, weighJigRule, peekRecordRule,
      clearNoticesRule]
    repeat' split
    all_goals exact .of_same rfl rfl rfl
  | _ => exact .refl s

end Sys2Proof.Machine
end

section
/-! What a step does to the save in flight and to the image (R173, R175, R177), and that every step keeps the stored tables,
the image and the records' ratios in order (R138, R150, R172). -/

namespace Sys2Proof.Machine

/-! ## The tables and the records, event by event -/

/-- The lock stands beside the ranges. -/
theorem Tables.InRange.lock {t : Tables} (h : t.InRange) (locked : Bool) :
    Tables.InRange { t with calibrationLock := locked } := { h with strict := h.strict }

theorem ruleOf_keepsTables (i : Instr) (s : State) : KeepsTables s (ruleOf i s).state := by
  by_cases hs : ∃ q, i = .saveTables q
  · obtain ⟨q, rfl⟩ := hs
    exact .of_same rfl rfl
  by_cases hl : ∃ q, i = .lockCalibration q
  · obtain ⟨q, rfl⟩ := hl
    simp only [ruleOf, lockCalibrationRule]
    split
    · exact .refl s
    · split
      · exact .refl s
      · exact .of_tables (fun h => h.lock true) rfl
  push Not at hs hl
  exact (ruleOf_keepsStored hs hl s).toKeepsTables

/-- Start-up takes the tables of a good image, whose ranges it has tested, or the defaults (R172, R177). -/
theorem startTables_inRange (image : Option StoredImage) (service : Bool) : (startTables image service).InRange := by
  have base : ((goodImage image).getD .initial).InRange := by
    rw [← Tables.ok_iff]
    cases hg : goodImage image with
    | none => decide
    | some t => exact ((goodImage_eq_some_iff image t).1 hg).2
  exact base.lock _

theorem DipEvent.keepsTables {s t : State} (h : DipEvent s t) : KeepsTables s t := by
  cases h with
  | rest => exact .refl s
  | sample h => exact keepsTables_contextSample h s
  | abort h => exact keepsTables_abortDip h s
  | drain h => exact keepsTables_drainExpired h s
  | weigh h => exact keepsTables_weighExpired h s
  | jigWeigh h => exact .of_same rfl rfl
  | request i => exact ruleOf_keepsTables i s
  | restart _ image _ service => exact ⟨fun _ => startTables_inRange image service, fun _ hr => (List.not_mem_nil hr).elim⟩

theorem step_keepsTables {s t : State} (h : step s = .next t) : KeepsTables s t := by
  obtain ⟨u, v, hu, he, hv⟩ := step_oneEvent h
  exact (hu.keepsTables.trans he.keepsTables).trans hv.keepsTables

/-! ## The store left alone -/

/-- `t` has the save in flight and the image of `s`. -/
structure SameStore (s t : State) : Prop where
  save : t.save = s.save
  image : t.image = s.image

theorem SameStore.refl (s : State) : SameStore s s := ⟨rfl, rfl⟩

theorem SameStore.trans {s t u : State} (h : SameStore s t) (h' : SameStore t u) : SameStore s u :=
  ⟨h'.save.trans h.save, h'.image.trans h.image⟩

/-- The later change named first, so that its own form says what came before it. -/
theorem SameStore.after {s t u : State} (h' : SameStore t u) (h : SameStore s t) : SameStore s u := h.trans h'

theorem LinkKeeps.sameStore {s t : State} (h : LinkKeeps s t) : SameStore s t := by
  obtain ⟨image, save, _⟩ := h
  exact ⟨save, image⟩

theorem sameStore_begin (s : State) : SameStore s s.begin := ⟨rfl, rfl⟩

theorem sameStore_reply (q : Req) (own code : Byte) (st : Status) (data : List Byte) (s : State) :
    SameStore s (reply q own code st data s) := ⟨rfl, rfl⟩

theorem sameStore_setPort (p : Port) (u : PortUnit) (s : State) : SameStore s (s.setPort p u) := ⟨rfl, rfl⟩

theorem sameStore_generatedDue (p : Port) (g : GenRequest) (s : State) : SameStore s (generatedDue p g s) :=
  (generatedDue_generatedOnly p g s).keeps.sameStore

theorem sameStore_pollDue (s : State) : SameStore s (pollDue s) := (pollDue_pollOnly s).keeps.sameStore

theorem sameStore_syncPollMode (s : State) : SameStore s (syncPollMode s) := (syncPollMode_pollOnly s).keeps.sameStore

theorem sameStore_forwardRequest (p : Port) (f : Frame) (s : State) : SameStore s (forwardRequest p f s) := by
  unfold forwardRequest
  split <;> exact ⟨rfl, rfl⟩

theorem sameStore_routeRequest (f : Frame) (s : State) : SameStore s (routeRequest f s) := by
  have answer (lc : LocalCode) (u : State) : SameStore u (answerRequest f lc u) := ⟨rfl, rfl⟩
  have hit (i : Nat) : SameStore s (countHit i s) := ⟨rfl, rfl⟩
  unfold routeRequest
  split
  · unfold boundFor
    dsimp only
    split
    case h_4 =>
      split
      · exact (hit _).trans (answer _ _)
      · exact (hit _).trans (sameStore_forwardRequest _ f _)
      · exact sameStore_forwardRequest _ f s
    all_goals exact answer _ s
  · exact answer _ s

theorem sameStore_broadcast (f : Frame) (s : State) : SameStore s (broadcast f s) := by
  unfold broadcast
  simp only [sendBroadcast_eq]
  split <;> exact ⟨rfl, rfl⟩

theorem sameStore_recoveryExpired (p : Port) (s : State) : SameStore s (recoveryExpired p s) := by
  unfold recoveryExpired
  dsimp only
  split
  · exact sameStore_setPort _ _ s
  · exact .refl s

theorem sameStore_stopTimerExpired (h : Hoist) (s : State) : SameStore s (stopTimerExpired h s) := by
  unfold stopTimerExpired
  dsimp only
  split
  · exact (sameStore_setPort _ _ s).trans (sameStore_generatedDue _ _ _)
  · exact .refl s

theorem sameStore_restartHoldExpired (p : Port) (s : State) : SameStore s (restartHoldExpired p s) := by
  unfold restartHoldExpired
  dsimp only
  split
  · exact (sameStore_setPort _ _ s).trans (sendPending_generatedOnly _ _).keeps.sameStore
  · exact .refl s

theorem sameStore_commandTimerExpired (h : Hoist) (s : State) : SameStore s (commandTimerExpired h s) := by
  have stopped (m : HoistMotion) : SameStore s (s.setMotion h m) := ⟨rfl, rfl⟩
  unfold commandTimerExpired
  dsimp only
  split
  · split
    · exact stopped _
    · exact (stopped _).trans (sameStore_generatedDue _ _ _)
  · exact .refl s

theorem sameStore_drainExpired (h : Hoist) (s : State) : SameStore s (drainExpired h s) := by
  unfold drainExpired
  split
  · exact (enterWeighing_dipOnly _ _ s).keeps.sameStore.trans (sameStore_syncPollMode _)
  · exact .refl s

theorem sameStore_weighExpired (h : Hoist) (s : State) : SameStore s (weighExpired h s) := by
  unfold weighExpired
  split
  · exact ((closeUnweighed_accountsOnly _ _ _ s).dipOnly.trans
      (finishDip_claimsOnly h _).dipOnly).keeps.sameStore.trans (sameStore_syncPollMode _)
  · exact .refl s

theorem sameStore_staleExpired (fig : BathFigure) (s : State) : SameStore s (staleExpired fig s) :=
  ⟨setNoticeIf_save _ _ _, setNoticeIf_image _ _ _⟩

/-! ## What becomes of the store -/

/-- What a command makes of the save in flight and of the image: nothing; a save of the present tables starts, and the
image is being overwritten (R173); the save in flight completes, and the image is what it wrote (R175); or a start-up drops
the save and leaves the image as it is (R176, R177). -/
inductive StoreStep (s t : State) : Prop where
  | same (h : SameStore s t)
  | starts (deadline : Nat) (hs : t.save = some ⟨t.tables, deadline⟩) (hi : t.image = none)
  | completes (x : Save) (hx : s.save = some x) (hs : t.save = none) (hi : t.image = some (writtenImage x.snapshot))
  | restarts (hs : t.save = none) (hi : t.image = s.image)

theorem StoreStep.refl (s : State) : StoreStep s s := .same (.refl s)

/-- What leaves the store alone may come before. -/
theorem SameStore.before {s t u : State} (h : SameStore s t) (h' : StoreStep t u) : StoreStep s u := by
  cases h' with
  | same h' => exact .same (h.trans h')
  | starts d hs hi => exact .starts d hs hi
  | completes x hx hs hi => exact .completes x (h.save ▸ hx) hs hi
  | restarts hs hi => exact .restarts hs (hi.trans h.image)

/-- What leaves the store and the tables alone may follow. -/
theorem StoreStep.trans {s t u : State} (h : StoreStep s t) (h' : SameStore t u) (ht : u.tables = t.tables) :
    StoreStep s u := by
  cases h with
  | same h => exact .same (h.trans h')
  | starts d hs hi => exact .starts d (by rw [h'.save, hs, ht]) (h'.image.trans hi)
  | completes x hx hs hi => exact .completes x hx (h'.save.trans hs) (h'.image.trans hi)
  | restarts hs hi => exact .restarts (h'.save.trans hs) (h'.image.trans hi)

theorem ruleOf_store (i : Instr) (s : State) : StoreStep s (ruleOf i s).state := by
  by_cases hs : ∃ q, i = .saveTables q
  · obtain ⟨q, rfl⟩ := hs
    exact .starts _ rfl rfl
  by_cases hl : ∃ q, i = .lockCalibration q
  · obtain ⟨q, rfl⟩ := hl
    simp only [ruleOf, lockCalibrationRule]
    split
    · exact .refl s
    · split
      · exact .refl s
      · exact .starts _ rfl rfl
  push Not at hs hl
  exact .same ⟨(ruleOf_keepsStored hs hl s).save, (ruleOf_keeps hs hl s).image⟩

theorem management_store {i : Instr} {code : Byte} {s t : State} (hc : managementCode i = some code)
    (h : exec i s = .next t) : StoreStep s t := by
  by_cases hr : ∃ q n, i = .restartSegment q n
  · obtain ⟨q, n, rfl⟩ := hr
    refine .same ?_
    cases hp : portOf n with
    | none =>
      rw [exec_restartSegment_none q s hp] at h
      cases h
      exact ⟨rfl, rfl⟩
    | some p =>
      cases hr : restartRefused p s with
      | true =>
        rw [exec_restartSegment_refused q s hp hr] at h
        cases h
        exact ⟨rfl, rfl⟩
      | false =>
        rw [exec_restartSegment_done q s hp hr, restartPort_eq] at h
        cases h
        exact ⟨rfl, rfl⟩
  · rw [exec_manage hc (fun q n hi => hr ⟨q, n, hi⟩), manage_next] at h
    injection h with h
    subst h
    split
    · exact .same ⟨rfl, rfl⟩
    · exact (sameStore_begin s).before ((ruleOf_store i s.begin).trans (sameStore_reply _ _ _ _ _ _) rfl)

theorem managementRequest_store {q : Req} {code : Byte} {p : List Byte} {s t : State}
    (h : managementRequest q code p s = .next t) : StoreStep s t := by
  cases hd : decodeManagement q code p with
  | some i =>
    rw [managementRequest_some s hd] at h
    exact management_store (decodeManagement_code hd).1 h
  | none =>
    rw [managementRequest_bad q s (by rw [← decodeManagement_isSome q, hd]; rfl)] at h
    cases h
    exact .same ⟨rfl, rfl⟩

theorem upstreamFrame_store {bytes : List Byte} {s t : State} (h : exec (.upstreamFrame bytes) s = .next t) :
    StoreStep s t := by
  simp only [exec, execUpstreamFrame] at h
  split at h
  · unfold upstream at h
    split at h
    · cases h; exact .same ⟨rfl, rfl⟩
    · split at h
      · exact managementRequest_store h
      · split at h
        · cases h; exact .same ((sameStore_begin s).trans (sameStore_broadcast _ _))
        · cases h; exact .same ((sameStore_begin s).trans (sameStore_routeRequest _ _))
  · cases h; exact .same ⟨rfl, rfl⟩

theorem completeSave_store (s : State) : StoreStep s (completeSave s) := by
  unfold completeSave
  split
  · next x hx => exact .completes x hx rfl rfl
  · exact .refl s

theorem exec_store {i : Instr} {s t : State} (h : exec i s = .next t) : StoreStep s t := by
  have event {u : State} (hu : StoreStep s.begin u)
      (e : Host.Outcome.next (φ := Fault) (ρ := Refusal) u = .next t) : StoreStep s t := by
    injection e with e
    exact e ▸ (sameStore_begin s).before hu
  have rests {u : State} (hu : SameStore s.begin u) := event (.same hu)
  have timer {c : Bool} {u : State} (hu : SameStore s.begin u) : SameStore s.begin (if c then u else s.begin) := by
    cases c
    · exact .refl _
    · exact hu
  cases hc : managementCode i with
  | some code => exact management_store hc h
  | none =>
    cases i with
    | upstreamFrame bytes => exact upstreamFrame_store h
    | unassignedManagementCode q code p => exact managementRequest_store h
    | saveCompletion => exact event (completeSave_store _) h
    | downstreamFrame p bytes => exact rests (receiveDown_keeps p bytes _).sameStore h
    | replyTimerExpiry p => exact rests (replyTimeout_keeps p _).sameStore h
    | recoveryTimerExpiry p => exact rests (sameStore_recoveryExpired p _) h
    | isolationStopTimerExpiry x => exact rests (sameStore_stopTimerExpired x _) h
    | restartHoldExpiry p => exact rests (sameStore_restartHoldExpired p _) h
    | commandTimerExpiry x => exact rests (sameStore_commandTimerExpired x _) h
    | drainDwellExpiry x => exact rests (timer (sameStore_drainExpired x _)) h
    | weighTimerExpiry x => exact rests (timer (sameStore_weighExpired x _)) h
    | jigWeighTimerExpiry x =>
      have idle : SameStore s.begin (jigWeighExpired x s.begin) := ⟨rfl, rfl⟩
      exact rests (timer idle) h
    | pollTimerExpiry =>
      have stopped : SameStore s.begin (s.begin.setBath { s.bath with pollTimer := none }) := ⟨rfl, rfl⟩
      exact rests (timer (stopped.trans (sameStore_pollDue _))) h
    | staleExpiry fig => exact rests (timer (sameStore_staleExpired fig _)) h
    | deviceReset cause service =>
      have restarted : StoreStep s.begin (startState s.image cause service s.pending) := .restarts rfl rfl
      exact event (restarted.trans (sameStore_pollDue _) (aside_pollDue _).tables) h
    | _ => nomatch hc

theorem step_store {s t : State} (h : step s = .next t) : StoreStep s t := by
  unfold step at h
  split at h
  · have taken (rest : List Instr) : SameStore s { s with pending := rest } := ⟨rfl, rfl⟩
    exact (taken _).before (exec_store h)
  · cases h
    exact .same ⟨rfl, rfl⟩

/-! ## Every step -/

/-- What the law of the stored tables says of working memory, of the save in flight and of the image (R172). -/
theorem storedOk_iff (s : State) : storedOk s = true ↔
    s.tables.ok = true ∧ (∀ x, s.save = some x → x.snapshot.ok = true) ∧ ∀ x, s.image = some x → x.good = true := by
  simp only [storedOk, Bool.and_eq_true, Option.all_eq_true, and_assoc]

/-- What a save writes of tables in their ranges is a good image (R172, R175). -/
theorem good_writtenImage {t : Tables} (h : t.ok = true) : (writtenImage t).good = true := by
  simp only [StoredImage.good, writtenImage, beq_self_eq_true, h, Bool.and_self]

theorem step_storedOk {s t : State} (hs : storedOk s = true) (h : step s = .next t) : storedOk t = true := by
  obtain ⟨tables, save, image⟩ := (storedOk_iff s).1 hs
  have after : t.tables.ok = true := (Tables.ok_iff _).2 ((step_keepsTables h).tables ((Tables.ok_iff _).1 tables))
  rw [storedOk_iff]
  cases step_store h with
  | same h =>
    rw [h.save, h.image]
    exact ⟨after, save, image⟩
  | starts d hs hi =>
    rw [hs, hi]
    refine ⟨after, fun x hx => ?_, by simp⟩
    obtain rfl := Option.some.inj hx
    exact after
  | completes x hx hs hi =>
    rw [hs, hi]
    refine ⟨after, by simp, fun y hy => ?_⟩
    obtain rfl := Option.some.inj hy
    exact good_writtenImage (save x hx)
  | restarts hs hi =>
    rw [hs, hi]
    exact ⟨after, by simp, image⟩

/-- Settles O59: a step's one event keeps the tables in their ranges and writes no record with a false ratio
(`step_keepsTables`), and what becomes of the save and of the image comes from tables in range (`step_store`). -/
theorem everyStepKeepsTheStoredTablesAndTheRatios : Obligations.EveryStepKeepsTheStoredTablesAndTheRatios := by
  refine ⟨fun s t hs h => step_storedOk hs h, fun s t hs h => ?_⟩
  simp only [ratiosOk, List.all_eq_true] at hs ⊢
  exact fun r hr => ((step_keepsTables h).records r hr).elim (hs r) id

end Sys2Proof.Machine
end

section
/-! The arithmetic of a NORMAL close and what it charges, in the terms of R144 to R146, R150 and R151. -/

namespace Sys2Proof.Machine

/-! ## The pickup (R145) -/

/-- Settles O34: each figure from its own line of `pickupFigures`, by the sign of the difference and by whether S is 0. -/
theorem normalCloseArithmetic : Obligations.NormalCloseArithmetic := by
  rintro wDry wWet sMass allowance rMin rMax _ _ _ _ rfl rfl rfl rfl
  refine ⟨⟨fun h => ⟨Int.toNat_of_nonneg h, ?_⟩, fun h => ⟨Int.toNat_of_nonpos (by omega), ?_⟩⟩, rfl, rfl,
    Nat.min_le_left _ _, fun hs => ?_, fun hs => ?_, fun r hr => ?_, fun hd hw => ?_⟩
  · exact decide_eq_false (by omega)
  · exact decide_eq_true (by omega)
  · simp only [pickupFigures, pickupRatio, if_neg (Nat.ne_of_gt hs), Option.some.injEq]
    split <;> omega
  · simp only [pickupFigures, pickupRatio, if_pos hs, and_self]
  · simp only [pickupFigures] at hr ⊢
    simp only [hr, and_self]
  · simp only [pickupFigures]
    omega

/-! ## The charges (R146) -/

/-- The over count after a NORMAL close (R146). -/
def overCountAfter (j : Job) (f : PickupFigures) : Nat := min 65535 (j.overCount + if f.overBand then 1 else 0)

/-- The job goes from OPEN to HELD at a close over its band that brings the over count to its hold count (R146). -/
abbrev closesHeld (j : Job) (f : PickupFigures) : Prop :=
  f.overBand ∧ j.status = .opened ∧ j.holdCount ≠ 0 ∧ j.holdCount ≤ overCountAfter j f

theorem Job.closeNormal_eq (j : Job) (sMass : Nat) (f : PickupFigures) : j.closeNormal sMass f = { j with
    dips := min 65535 (j.dips + 1), steel := min 4294967295 (j.steel + sMass)
    pickup := min 4294967295 (j.pickup + f.workShare)
    underCount := min 65535 (j.underCount + if f.underBand then 1 else 0), overCount := overCountAfter j f
    status := if closesHeld j f then .held else j.status } := by
  have held : (f.overBand && j.status == .opened && j.holdCount != 0 && decide (j.holdCount ≤ overCountAfter j f))
      = decide (closesHeld j f) := by
    rw [Bool.eq_iff_iff]
    simp only [closesHeld, Bool.and_eq_true, beq_iff_eq, bne_iff_ne, decide_eq_true_eq, and_assoc]
  have status : (j.closeNormal sMass f).status = if closesHeld j f then .held else j.status := by
    refine (congrArg (fun b : Bool => if b then JobStatus.held else j.status) held).trans ?_
    simp only [decide_eq_true_eq]
  rw [← status]
  rfl

theorem turnsHeld_eq (j : Job) (sMass : Nat) (f : PickupFigures) :
    turnsHeld j sMass f = decide (closesHeld j f) := by
  rw [turnsHeld, Job.closeNormal_eq, Bool.eq_iff_iff, Bool.and_eq_true, beq_iff_eq, beq_iff_eq, decide_eq_true_eq]
  constructor
  · rintro ⟨opened, held⟩
    dsimp only at held
    split at held
    · assumption
    · rw [opened] at held
      cases held
  · intro h
    exact ⟨h.2.1, if_pos h⟩

/-- The figures of a close whose context holds W_dry and S, and whose job and jig are in their tables. -/
theorem normalFigures_eq {c : Context} {tg : TagArgs} {wDry : Int} {sMass : Nat} {j : Job} {g : Jig} {s : State}
    (hw : c.wDry = some wDry) (hm : c.sMass = some sMass) (hj : findJob tg.job s = some j)
    (hg : findJig tg.jig s = some g) (wWet : Int) :
    normalFigures c tg wWet s = pickupFigures wDry sMass wWet g.allowance j.rMin j.rMax := by
  simp only [normalFigures, allowanceOf, bandOf, hw, hm, hj, hg, Option.map_some, Option.getD_some]

/-- Where a number names one job alone, that job is the one charged. -/
theorem normalTables_eq {tg : TagArgs} {j : Job} {s : State} (sMass : Nat) (f : PickupFigures)
    (hu : ∀ x ∈ s.tables.jobs, x.number = tg.job → x = j) : normalTables tg sMass f s = { s.tables with
      jobs := s.tables.jobs.map (fun x => if x.number = tg.job then j.closeNormal sMass f else x)
      jigs := s.tables.jigs.map (fun x => if x.id = tg.jig then x.charge f.jigShare else x)
      balance := { s.tables.balance with
        k := s.tables.balance.k - f.pickup, pickups := s.tables.balance.pickups + f.pickup
        shortfall := s.tables.balance.shortfall + (f.pickup - s.tables.balance.k) } } := by
  have jobs : s.tables.jobs.map (fun x => if x.number = tg.job then x.closeNormal sMass f else x)
      = s.tables.jobs.map (fun x => if x.number = tg.job then j.closeNormal sMass f else x) := by
    refine List.map_congr_left fun x hx => ?_
    split
    · next hn => rw [hu x hx hn]
    · rfl
  rw [normalTables, jobs, Balance.debit_eq]

/-- Settles O35: the close as one change of the state (`closeNormal_eq`), with the job and the jig that the tag names. -/
theorem normalCloseChargesTheAccounts : Obligations.NormalCloseChargesTheAccounts := by
  rintro c tg hoist wWet wDry sMass j g s f _ hw hm hj hg hu hf rfl
  have band : bandOf tg.job s = (j.rMin, j.rMax) := by simp only [bandOf, hj, Option.map_some, Option.getD_some]
  rw [closeNormal_eq ((normalFigures_eq hw hm hj hg wWet).trans hf.symm), normalTables_eq _ f hu, normalRecord, band]
  simp only [hm, hj, Option.map_some, Option.getD_some, turnsHeld_eq, Job.closeNormal_eq, Bool.or_assoc]
  rfl

end Sys2Proof.Machine
end

section
/-! The dip records as they are read: oldest first, in the 59 bytes of R183 (R152, R183). -/

namespace Sys2Proof.Machine

/-! ## Pieces of a run of bytes -/

/-- A piece of a run stands at the sum of the lengths before it. -/
theorem flatten_slice {α : Type} (l : List (List α)) (k : Nat) (hk : k < l.length) :
    (l.flatten.drop ((l.map List.length).take k).sum).take l[k].length = l[k] := by
  have before : ((l.map List.length).take k).sum = (l.take k).flatten.length := by
    rw [List.length_flatten, List.map_take]
  have split : l.flatten = (l.take k).flatten ++ (l[k] ++ (l.drop (k + 1)).flatten) := by
    rw [← List.flatten_cons, ← List.drop_eq_getElem_cons, ← List.flatten_append, List.take_append_drop]
  rw [before, split, List.drop_left, List.take_left]

/-! ## The 59 bytes (R183) -/

/-- The fields of a record in the order of R183's table. -/
def recordPieces (r : Record) : List (List Byte) :=
  [beBytes 2 r.seq.toNat, beBytes 1 (r.outcome.num + 4 * r.hoist.num), beBytes 1 (r.token.getD 0), beBytes 3 r.job,
    beBytes 2 r.jig, beBytes 1 r.profile, beBytes 1 (presenceBits r),
    beBytes 2 (flagBits r.flags r.negPickup r.underBand r.overBand), beBytes 6 r.tTare, laterTime r.tTare r.tEntry,
    laterTime r.tTare r.tImmersion, laterTime r.tTare r.tWithdrawal, laterTime r.tTare r.tDrain,
    laterTime r.tTare (some r.tClose), beInt 3 r.wDry, beBytes 3 r.sMass, bathMassBytes r.bath, wetBytes r.wet,
    bandBytes r.wet r.ratio]

theorem recordBytes_eq (r : Record) : recordBytes r = (recordPieces r).flatten := by
  simp only [recordBytes, recordPieces, List.flatten_cons, List.flatten_nil, List.append_assoc, List.append_nil]

/-- The widths of the fields. -/
def recordWidths : List Nat := [2, 1, 1, 3, 2, 1, 1, 2, 6, 2, 2, 2, 2, 2, 3, 3, 9, 11, 4]

theorem length_laterTime (tare : Nat) (t : Option Nat) : (laterTime tare t).length = 2 := by
  cases t
  · rfl
  · exact length_beBytes _ _

theorem length_bathMassBytes (m : Option BathMasses) : (bathMassBytes m).length = 9 := by
  cases m <;> simp [bathMassBytes]

theorem length_wetBytes (w : Option WetFigures) : (wetBytes w).length = 11 := by
  cases w <;> simp [wetBytes]

theorem recordPieces_widths (r : Record) : (recordPieces r).map List.length = recordWidths := by
  simp only [recordPieces, bandBytes, List.map_cons, List.map_nil, length_beBytes, length_beInt, length_laterTime,
    length_bathMassBytes, length_wetBytes, recordWidths]

theorem length_recordBytes (r : Record) : (recordBytes r).length = 59 := by
  rw [recordBytes_eq, List.length_flatten, recordPieces_widths]
  rfl

/-- The bytes of a record from `i` on are those of its field there, whole. -/
theorem recordBytes_field (r : Record) (k : Nat) {i n : Nat} {piece : List Byte}
    (hp : (recordPieces r)[k]? = some piece) (hi : (recordWidths.take k).sum = i) (hn : recordWidths[k]? = some n) :
    ((recordBytes r).drop i).take n = piece := by
  obtain ⟨hk, rfl⟩ := List.getElem?_eq_some_iff.1 hp
  have width : (recordPieces r)[k].length = n := by
    rw [← recordPieces_widths r, List.getElem?_map, hp] at hn
    exact Option.some.inj hn
  rw [recordBytes_eq, ← hi, ← width, ← recordPieces_widths r]
  exact flatten_slice _ k hk

/-! ## The bits of the outcome, the presence and the flag bytes -/

theorem bit_scaled (n : Nat) (b : Bool) : n * bit b = if b then n else 0 := by
  cases b
  · exact Nat.mul_zero n
  · exact Nat.mul_one n

theorem RecordHoist.num_eq (h : RecordHoist) : h.num = match h with
    | .one .h1 => 1
    | .one .h2 => 2
    | .both => 3 := by
  cases h with
  | one h => cases h <;> rfl
  | both => rfl

theorem presenceBits_eq (r : Record) : presenceBits r = (if r.tEntry.isSome then 1 else 0)
    + (if r.tImmersion.isSome then 2 else 0) + (if r.tWithdrawal.isSome then 4 else 0)
    + (if r.tDrain.isSome then 8 else 0) + (if r.bath.isSome then 16 else 0) + (if r.wet.isSome then 32 else 0)
    + (if r.ratio.isSome then 64 else 0) := by
  simp only [presenceBits, bit_scaled]
  rfl

theorem flagBits_eq (f : DipFlags) (negPickup under over' : Bool) : flagBits f negPickup under over'
    = (if f.shortImmersion then 1 else 0) + (if f.reImmersed then 2 else 0) + (if f.float then 4 else 0)
      + (if f.grounded then 8 else 0) + (if negPickup then 16 else 0) + (if under then 32 else 0)
      + (if over' then 64 else 0) + (if f.noSteel then 128 else 0) + (if f.overloadSeen then 256 else 0)
      + (if f.noContact then 512 else 0) := by
  simp only [flagBits, bit_scaled]
  rfl

theorem beBytes_one (n : Nat) : beBytes 1 n = [BitVec.ofNat 8 n] := by simp [beBytes]

/-! ## PEEK RECORD and TAKE RECORD (R152) -/

theorem exec_peekRecord {q : Req} {r : Record} {rest : List Record} {s : State} (hr : s.records = r :: rest) :
    exec (.peekRecord q) s = .next (answered q 0xBC .done (recordBytes r) s s) := by
  refine manage_done q 0xBC peekRecordRule _ s s ?_
  simp only [peekRecordRule, State.begin_records, hr]

theorem exec_takeRecord {q : Req} {r : Record} {rest : List Record} {s : State} (hr : s.records = r :: rest) :
    exec (.takeRecord q) s = .next (answered q 0xBD .done (recordBytes r) s { s with records := rest }) := by
  refine manage_done q 0xBD takeRecordRule _ s _ ?_
  simp only [takeRecordRule, State.begin_records, hr]
  rfl

theorem exec_peekRecord_empty (q : Req) {s : State} (hr : s.records = []) :
    exec (.peekRecord q) s = .next (answered q 0xBC .notFound [] s s) := by
  refine manage_refused q 0xBC peekRecordRule _ s ?_
  simp only [peekRecordRule, State.begin_records, hr]

theorem exec_takeRecord_empty (q : Req) {s : State} (hr : s.records = []) :
    exec (.takeRecord q) s = .next (answered q 0xBD .notFound [] s s) := by
  refine manage_refused q 0xBD takeRecordRule _ s ?_
  simp only [takeRecordRule, State.begin_records, hr]

/-- Where each field of R183's table stands. -/
theorem recordBytes_fields {r : Record} {b : List Byte} {field : Nat → Nat → List Byte} (hb : b = recordBytes r)
    (hf : ∀ i n, field i n = (b.drop i).take n) (k : Nat) {i n : Nat} {piece : List Byte}
    (hp : (recordPieces r)[k]? = some piece) (hi : (recordWidths.take k).sum = i) (hn : recordWidths[k]? = some n) :
    field i n = piece := by
  rw [hf, hb]
  exact recordBytes_field r k hp hi hn

/-- Settles O45: the two requests by their rules, and each field as the piece of the record that stands at its place. -/
theorem recordsAreReadOldestFirst : Obligations.RecordsAreReadOldestFirst := by
  unfold Obligations.RecordsAreReadOldestFirst
  refine And.intro ?_ (And.intro ?_ ?_)
  · exact fun q r rest s hr => ⟨exec_peekRecord hr, exec_takeRecord hr⟩
  · exact fun q s hr => ⟨exec_peekRecord_empty q hr, exec_takeRecord_empty q hr⟩
  intro r b field later hb hf hl
  have time (t : Option Nat) : laterTime r.tTare t = later t := by
    rw [hl]
    cases t <;> rfl
  have piece := recordBytes_fields hb hf
  have outcome : (recordPieces r)[1]? = some (beBytes 1 ((match r.outcome with
      | .normal => 0
      | .unweighed => 1
      | .aborted => 2) + 4 * (match r.hoist with
      | .one .h1 => 1
      | .one .h2 => 2
      | .both => 3))) := by
    rw [← RecordHoist.num_eq]
    rfl
  simp only [← time, ← flagBits_eq, ← presenceBits_eq, ← beBytes_one]
  exact ⟨hb ▸ length_recordBytes r, piece 0 rfl rfl rfl, piece 1 outcome rfl rfl, piece 2 rfl rfl rfl, piece 3 rfl rfl rfl,
    piece 4 rfl rfl rfl, piece 5 rfl rfl rfl, piece 6 rfl rfl rfl, piece 7 rfl rfl rfl, piece 8 rfl rfl rfl,
    piece 9 rfl rfl rfl, piece 10 rfl rfl rfl, piece 11 rfl rfl rfl, piece 12 rfl rfl rfl, piece 13 rfl rfl rfl,
    piece 14 rfl rfl rfl, piece 15 rfl rfl rfl, piece 16 rfl rfl rfl, piece 17 rfl rfl rfl, piece 18 rfl rfl rfl⟩

end Sys2Proof.Machine
end

section
/-! The requests about jobs, and about the zinc in the kettle, by their checks in order (R131 to R142). -/

namespace Sys2Proof.Machine

/-! ## Checks on a job -/

theorem jobArgsOk_eq (n lo hi hold : Nat) : (jobNumberOk n && bandOk lo hi hold)
    = !decide (n < 1 ∨ 999999 < n ∨ 999 < lo ∨ 999 < hi ∨ hi < lo ∨ 255 < hold) := by
  rw [Bool.eq_iff_iff]
  simp [jobNumberOk, bandOk, within]
  omega

theorem bandOk_eq (lo hi hold : Nat) : bandOk lo hi hold = !decide (999 < lo ∨ 999 < hi ∨ hi < lo ∨ 255 < hold) := by
  rw [Bool.eq_iff_iff]
  simp [bandOk]
  omega

/-- A rule that looks a job up and then tests it makes two checks: that it is there, and the test. -/
theorem eq_answerOf_of_job {answer : Answer} {job : Option Job} {fails : Job → Bool} {st : Status} {s s' : State}
    (absent : job = none → answer = refuse .notFound s)
    (found : ∀ j, job = some j → answer = if fails j then refuse st s else accept s') :
    answer = answerOf [(job.isNone, .notFound), (job.any fails, st)] s s' := by
  cases job with
  | none => exact absent rfl
  | some j =>
    rw [found j rfl]
    simp [answerOf_cons, answerOf_nil]

/-! ## Jobs (R131 to R136) -/

/-- OPEN JOB (R132). -/
theorem exec_openJob (q : Req) (n lo hi hold : Nat) (s : State) :
    exec (.openJob q n lo hi hold) s = .next (checked q 0xB0
      [(s.save.isSome, .busy),
       (decide (n < 1 ∨ 999999 < n ∨ 999 < lo ∨ 999 < hi ∨ hi < lo ∨ 255 < hold), .outOfRange),
       ((findJob n s).isSome, .duplicate), (decide (96 ≤ s.tables.jobs.length), .full)]
      [] s { s with tables := { s.tables with
        jobs := s.tables.jobs ++ [⟨n, lo, hi, hold, .opened, 0, 0, 0, 0, 0, 0⟩] } }) := by
  refine manage_answerOf_stored (rule := openJobRule n lo hi hold) ?_
  simp only [openJobRule, jobArgsOk_eq, Bool.not_not]
  rw [← answerOf_nil s.begin, ← answerOf_decide, ← answerOf_cons, ← answerOf_cons]
  rfl

/-- SET JOB BAND (R133). -/
theorem exec_setJobBand (q : Req) (n lo hi hold : Nat) (s : State) :
    exec (.setJobBand q n lo hi hold) s = .next (checked q 0xB1
      [(s.save.isSome, .busy), (decide (999 < lo ∨ 999 < hi ∨ hi < lo ∨ 255 < hold), .outOfRange),
       ((findJob n s).isNone, .notFound), ((findJob n s).any (fun j => j.status == .closed), .notAllowed)]
      [] s { s with tables := { s.tables with
        jobs := s.tables.jobs.map
          (fun j => if j.number = n then { j with rMin := lo, rMax := hi, holdCount := hold } else j) } }) := by
  refine manage_answerOf_stored (rule := setJobBandRule n lo hi hold) ?_
  simp only [setJobBandRule, bandOk_eq, Bool.not_not]
  rw [answerOf_cons]
  congr 1
  refine eq_answerOf_of_job (fun hj => ?_) (fun j hj => ?_)
  · have hb : findJob n s.begin = none := hj
    rw [hb]
  · have hb : findJob n s.begin = some j := hj
    simp only [hb, beq_iff_eq]
    rfl

/-- RESUME JOB (R134). -/
theorem exec_resumeJob (q : Req) (n : Nat) (s : State) : exec (.resumeJob q n) s = .next (checked q 0xB2
    [(s.save.isSome, .busy), ((findJob n s).isNone, .notFound),
     ((findJob n s).any (fun j => j.status == .closed), .notAllowed)]
    [] s { s with tables := { s.tables with
      jobs := s.tables.jobs.map
        (fun j => if j.number = n then { j with status := .opened, overCount := 0 } else j) } }) := by
  refine manage_answerOf_stored (rule := resumeJobRule n) (eq_answerOf_of_job (fun hj => ?_) (fun j hj => ?_))
  · have hb : findJob n s.begin = none := hj
    rw [resumeJobRule, hb]
  · have hb : findJob n s.begin = some j := hj
    simp only [resumeJobRule, hb, beq_iff_eq]
    rfl

/-- CLOSE JOB (R135). -/
theorem exec_closeJob (q : Req) (n : Nat) (s : State) : exec (.closeJob q n) s = .next (checked q 0xB3
    [(s.save.isSome, .busy), ((findJob n s).isNone, .notFound), (anyTag (fun t => t.job == n) s, .inUse)]
    [] s { s with tables := { s.tables with
      jobs := s.tables.jobs.map (fun j => if j.number = n then { j with status := .closed } else j) } }) := by
  refine manage_answerOf_stored (rule := closeJobRule n) ?_
  simp only [closeJobRule, jobUsers, hoistsTagged_isEmpty, Bool.not_not]
  rw [← answerOf_nil s.begin, ← answerOf_cons, ← answerOf_cons]
  rfl

/-- RELEASE JOB (R136). -/
theorem exec_releaseJob (q : Req) (n : Nat) (s : State) : exec (.releaseJob q n) s = .next (checked q 0xB4
    [(s.save.isSome, .busy), ((findJob n s).isNone, .notFound),
     ((findJob n s).any (fun j => j.status != .closed), .notAllowed)]
    [] s { s with tables := { s.tables with jobs := s.tables.jobs.filter (fun j => j.number != n) } }) := by
  refine manage_answerOf_stored (rule := releaseJobRule n) (eq_answerOf_of_job (fun hj => ?_) (fun j hj => ?_))
  · have hb : findJob n s.begin = none := hj
    rw [releaseJobRule, hb]
  · have hb : findJob n s.begin = some j := hj
    simp only [releaseJobRule, hb, bne_iff_ne]
    rfl

/-- Settles O41: the five requests, each by its own equation. -/
theorem jobRequests : Obligations.JobRequests :=
  ⟨exec_openJob, exec_setJobBand, exec_resumeJob, exec_closeJob, exec_releaseJob⟩

/-! ## Zinc added and removed (R139, R140) -/

theorem massOk_eq (m : Nat) : massOk m = !decide (m = 0 ∨ 1000000 < m) := by
  rw [Bool.eq_iff_iff]
  simp [massOk, within]
  omega

/-- Settles O42: the mass is tested alone, then with the balance it would raise. -/
theorem zincAddedRaisesTheBalance : Obligations.ZincAddedRaisesTheBalance := by
  intro q m s
  refine manage_answerOf_stored (rule := zincAddedRule m) ?_
  simp only [zincAddedRule, massOk_eq, Bool.not_not]
  rw [← answerOf_nil s.begin, ← answerOf_decide, ← answerOf_cons]
  rfl

/-- What a removal of `m` leaves: within the balance K falls by it; beyond, the excess is shortfall (R140). -/
def afterRemoval (m : Nat) (s : State) : State :=
  setNoticeIf (decide (s.tables.balance.k < m)) .balanceShortfall
    (s.setBalance ({ s.tables.balance with removals := s.tables.balance.removals + m }.debit m))

theorem afterRemoval_of_le {m : Nat} {s : State} (h : m ≤ s.tables.balance.k) :
    afterRemoval m s = { s with tables := { s.tables with
      balance := { s.tables.balance with
        removals := s.tables.balance.removals + m, k := s.tables.balance.k - m } } } := by
  rw [afterRemoval, decide_eq_false (Nat.not_lt.2 h), Balance.debit, if_pos h]
  rfl

theorem afterRemoval_of_lt {m : Nat} {s : State} (h : s.tables.balance.k < m) :
    afterRemoval m s = { s with
      tables := { s.tables with
        balance := { s.tables.balance with
          removals := s.tables.balance.removals + m, k := 0
          shortfall := s.tables.balance.shortfall + (m - s.tables.balance.k) } }
      notices := { s.notices with balanceShortfall := true } } := by
  rw [afterRemoval, decide_eq_true h, Balance.debit, if_neg (Nat.not_le.2 h)]
  rfl

theorem removalRule_begin (m : Nat) (s : State) : removalRule m s.begin
    = answerOf [(decide (m = 0 ∨ 1000000 < m), .outOfRange)] s.begin (afterRemoval m s).begin := by
  have effect : afterRemoval m s.begin = (afterRemoval m s).begin := by
    rw [afterRemoval, afterRemoval, State.begin_tables]
    cases decide (s.tables.balance.k < m) <;> rfl
  simp only [removalRule, massOk_eq, Bool.not_not]
  rw [answerOf_cons, answerOf_nil, ← effect]
  rfl

/-- Settles O43: both requests have the one rule, whose effect has the two cases. -/
theorem removalsLowerTheBalance : Obligations.RemovalsLowerTheBalance := by
  intro q m s s' within' beyond
  obtain rfl : s' = afterRemoval m s := by
    rcases Nat.lt_or_ge s.tables.balance.k m with h | h
    · exact (beyond h).trans (afterRemoval_of_lt h).symm
    · exact (within' h).trans (afterRemoval_of_le h).symm
  exact ⟨manage_answerOf_stored (rule := removalRule m) (removalRule_begin m s),
    manage_answerOf_stored (rule := removalRule m) (removalRule_begin m s)⟩

/-! ## The balance set afresh (R141, R142) -/

/-- SET BALANCE (R141). -/
theorem exec_setBalance (q : Req) (v : Nat) (s : State) : exec (.setBalance q v) s = .next (checked q 0xB9
    [(s.save.isSome, .busy), (decide (999999999 < v), .outOfRange)]
    [] s { s with tables := { s.tables with balance := ⟨v, v, 0, 0, 0, 0, 0⟩ } }) := by
  refine manage_answerOf_stored (rule := setBalanceRule v) ?_
  rw [setBalanceRule, ← answerOf_nil s.begin, ← answerOf_decide]
  rfl

/-- SET BALANCE TO LEVEL after a quiet level sample (R142). -/
theorem exec_setBalanceToLevel (q : Req) (x : QuietSample) (s : State) (hx : s.bath.quiet = some x) :
    exec (.setBalanceToLevel q) s = .next (checked q 0xBA
      [(s.save.isSome, .busy), (decide (s.tables.bath.staleTime * 1000 < s.now - x.time), .notAllowed),
       (decide (999999999 < x.implied), .outOfRange)]
      [] s { s with tables := { s.tables with balance := ⟨x.implied, x.implied, 0, 0, 0, 0, 0⟩ } }) := by
  refine manage_answerOf_stored (rule := setBalanceToLevelRule) ?_
  simp only [setBalanceToLevelRule, State.begin_bath, hx]
  rw [← answerOf_nil s.begin, ← answerOf_decide, ← answerOf_decide]
  rfl

/-- SET BALANCE TO LEVEL before any quiet level sample (R142). -/
theorem exec_setBalanceToLevel_none (q : Req) (s : State) (hx : s.bath.quiet = none) :
    exec (.setBalanceToLevel q) s = .next (checked q 0xBA [(s.save.isSome, .busy), (true, .notAllowed)] [] s s) := by
  refine manage_answerOf_stored (rule := setBalanceToLevelRule) (checks := [(true, .notAllowed)]) ?_
  simp only [setBalanceToLevelRule, State.begin_bath, hx]
  rfl

/-- Settles O44: a value given, or the one implied by the last quiet level sample. -/
theorem setBalanceStartsAfresh : Obligations.SetBalanceStartsAfresh :=
  ⟨exec_setBalance, exec_setBalanceToLevel, exec_setBalanceToLevel_none⟩

end Sys2Proof.Machine
end

section
/-! Notices: the requests that read, clear and level them (R160 to R162), and the attention value as the highest
contribution of a kind (R157, R158). -/

namespace Sys2Proof.Machine

/-! ## The kinds and their numbers (R156) -/

theorem Notice.mem_all (n : Notice) : n ∈ Notice.all := by cases n <;> decide

theorem Notice.num_within (n : Notice) : 1 ≤ n.num ∧ n.num ≤ 19 := by cases n <;> decide

theorem noticeOf_num (n : Notice) : noticeOf n.num = some n := by cases n <;> rfl

theorem noticeOf_eq_some_iff {k : Nat} {n : Notice} : noticeOf k = some n ↔ n.num = k :=
  ⟨fun h => beq_iff_eq.1 (List.find?_some (p := fun n : Notice => n.num == k) h), fun h => h ▸ noticeOf_num n⟩

/-- The numbers 1 to 19 name kinds, and no other number does. -/
theorem noticeOf_isSome_iff {k : Nat} : (noticeOf k).isSome ↔ 1 ≤ k ∧ k ≤ 19 := by
  constructor
  · intro h
    obtain ⟨n, hn⟩ := Option.isSome_iff_exists.1 h
    exact noticeOf_eq_some_iff.1 hn ▸ n.num_within
  · rintro ⟨lower, upper⟩
    have named : ∀ i : Fin 19, (noticeOf (i + 1)).isSome := by decide
    simpa [Nat.sub_add_cancel lower] using named ⟨k - 1, by omega⟩

theorem mem_filterMap_noticeOf {ks : List Nat} {n : Notice} : n ∈ ks.filterMap noticeOf ↔ n.num ∈ ks := by
  simp [List.mem_filterMap, noticeOf_eq_some_iff]

/-! ## READ NOTICES and CLEAR NOTICES (R160, R161) -/

theorem kindBytes_eq (f : NoticeFlags) :
    kindBytes f = BitVec.ofNat 8 f.kinds.length :: f.kinds.map (fun n => BitVec.ofNat 8 n.num) := by
  rw [kindBytes, beBytes_one]
  rfl

theorem groupByte_eq (g : GroupSetting) :
    groupByte g = BitVec.ofNat 8 ((if g.enabled then 128 else 0) + g.level % 4) := by
  rw [groupByte, bit_scaled]

/-- READ NOTICES (R160; bits 6 to 2 of a group byte: log 36). -/
theorem exec_readNotices (q : Req) (s : State) : exec (.readNotices q) s = .next (answered q 0x94 .done
    (BitVec.ofNat 8 s.notices.kinds.length :: s.notices.kinds.map (fun n => BitVec.ofNat 8 n.num)
      ++ [Group.dip, .queue, .link, .bath, .device].map (fun g =>
        BitVec.ofNat 8 ((if (s.tables.groups.get g).enabled then 128 else 0) + (s.tables.groups.get g).level % 4))
      ++ [BitVec.ofNat 8 (attention s)]) s s) := by
  refine manage_done q 0x94 readNoticesRule _ s s ?_
  simp only [readNoticesRule, kindBytes_eq, groupByte_eq, beBytes_one]
  rfl

theorem anyFaulted_eq (s : State) :
    anyFaulted s = [Port.a, Port.b, Port.k].any (fun p => (s.ports.get p).state == .faulted) := by
  simp only [anyFaulted, List.any_cons, List.any_nil, Bool.or_false, Bool.or_assoc]
  rfl

/-- Clearing a kind clears no other, and not PORT FAULT while a port is FAULTED. -/
theorem clearKind_get (faulted : Bool) (f : NoticeFlags) (k n : Notice) :
    (clearKind faulted f k).get n = (f.get n && !(n == k && !(n == .portFault && faulted))) := by
  unfold clearKind
  by_cases hn : n = k
  · subst hn
    cases faulted <;> by_cases hp : n = .portFault <;> simp [hp, NoticeFlags.get_set]
  · split <;> simp [hn, NoticeFlags.get_set]

theorem foldl_clearKind_get (faulted : Bool) (ks : List Notice) (f : NoticeFlags) (n : Notice) :
    (ks.foldl (clearKind faulted) f).get n
      = (f.get n && !(decide (n ∈ ks) && !(n == .portFault && faulted))) := by
  induction ks generalizing f with
  | nil => simp
  | cons k ks ih =>
    rw [List.foldl_cons, ih, clearKind_get, Bool.and_assoc, ← Bool.not_or, ← Bool.and_or_distrib_right]
    simp [beq_eq_decide]

/-- The flags that CLEAR NOTICES leaves. -/
def noticesCleared (ks : List Nat) (s : State) : NoticeFlags :=
  (ks.filterMap noticeOf).foldl (clearKind (anyFaulted s)) s.notices

theorem noticesCleared_get (ks : List Nat) (s : State) (n : Notice) :
    (noticesCleared ks s).get n = (s.notices.get n && !(decide (n.num ∈ ks)
      && !(n == .portFault && [Port.a, Port.b, Port.k].any (fun p => (s.ports.get p).state == .faulted)))) := by
  rw [noticesCleared, foldl_clearKind_get, anyFaulted_eq]
  simp only [mem_filterMap_noticeOf]

/-- A list of at most 19 kinds is taken by the owning rule (R167). -/
theorem exec_clearNotices_eq_manage (q : Req) {ks : List Nat} (s : State) (room : ks.length ≤ 19) :
    exec (.clearNotices q ks) s = manage q 0x95#8 false (clearNoticesRule ks) s := by
  have unfolded : exec (.clearNotices q ks) s = execClearNotices q ks s := rfl
  rw [unfolded, execClearNotices]
  simp only [if_pos room]

/-- CLEAR NOTICES of kinds that all exist (R161). -/
theorem exec_clearNotices (q : Req) {ks : List Nat} (s : State) (room : ks.length ≤ 19)
    (kinds : ∀ k ∈ ks, 1 ≤ k ∧ k ≤ 19) :
    exec (.clearNotices q ks) s = .next (answered q 0x95 .done (BitVec.ofNat 8 (noticesCleared ks s).kinds.length
      :: (noticesCleared ks s).kinds.map (fun n => BitVec.ofNat 8 n.num)) s
      { s with notices := noticesCleared ks s }) := by
  have named : ks.all (fun k => (noticeOf k).isSome) = true :=
    List.all_eq_true.2 fun k hk => noticeOf_isSome_iff.2 (kinds k hk)
  rw [exec_clearNotices_eq_manage q s room]
  refine manage_done q 0x95 (clearNoticesRule ks) _ s _ ?_
  rw [clearNoticesRule, if_pos named, ← kindBytes_eq]
  rfl

/-- CLEAR NOTICES with a kind that does not exist (R161). -/
theorem exec_clearNotices_outOfRange (q : Req) {ks : List Nat} (s : State) (room : ks.length ≤ 19)
    (unknown : ∃ k ∈ ks, k < 1 ∨ 19 < k) :
    exec (.clearNotices q ks) s = .next (answered q 0x95 .outOfRange [] s s) := by
  have unnamed : ¬ ks.all (fun k => (noticeOf k).isSome) = true := by
    intro named
    obtain ⟨k, hk, out⟩ := unknown
    have inside := noticeOf_isSome_iff.1 (List.all_eq_true.1 named k hk)
    omega
  rw [exec_clearNotices_eq_manage q s room]
  refine manage_refused q 0x95 (clearNoticesRule ks) .outOfRange s ?_
  rw [clearNoticesRule, if_neg unnamed]

/-! ## SET NOTICE LEVELS (R162) -/

theorem groupOf_of_mem {n : Nat} {g : Group}
    (h : (n, g) ∈ [(1, Group.dip), (2, .queue), (3, .link), (4, .bath), (5, .device)]) : groupOf n = some g := by
  have named : ∀ x ∈ [(1, Group.dip), (2, .queue), (3, .link), (4, .bath), (5, .device)],
      groupOf x.1 = some x.2 := by decide
  exact named _ h

/-- SET NOTICE LEVELS of a group (R162, log 18). -/
theorem exec_setNoticeLevels (q : Req) {g : Group} {n : Nat} (level enable : Nat) (s : State)
    (hg : groupOf n = some g) :
    exec (.setNoticeLevels q n level enable) s = .next (checked q 0x96
      [(s.save.isSome, .busy), (decide (3 < level), .outOfRange), (decide (1 < enable), .outOfRange)]
      [] s { s with tables := { s.tables with groups := s.tables.groups.set g ⟨level, enable == 1⟩ } }) := by
  refine manage_answerOf_stored (rule := setNoticeLevelsRule n level enable) ?_
  rw [answerOf_decide, answerOf_decide, answerOf_nil]
  simp only [setNoticeLevelsRule, hg, boolOf_eq]
  by_cases he : 1 < enable
  · simp only [if_pos he, ite_self]
  · simp only [if_neg he, ← Nat.not_lt, ite_not]
    rfl

/-- SET NOTICE LEVELS of a number that is no group's (R162). -/
theorem exec_setNoticeLevels_outOfRange (q : Req) {n : Nat} (level enable : Nat) (s : State) (hn : n = 0 ∨ 5 < n) :
    exec (.setNoticeLevels q n level enable) s
      = .next (checked q 0x96 [(s.save.isSome, .busy), (true, .outOfRange)] [] s s) := by
  refine manage_answerOf_stored (rule := setNoticeLevelsRule n level enable) (checks := [(true, .outOfRange)]) ?_
  simp only [setNoticeLevelsRule, groupOf_none n hn]
  rfl

/-- Settles O46: each request by its own equation; the flags that CLEAR NOTICES leaves are `noticesCleared`. -/
theorem noticeRequests : Obligations.NoticeRequests :=
  ⟨exec_readNotices,
    fun q ks s room kinds => ⟨noticesCleared ks s, exec_clearNotices q s room kinds, noticesCleared_get ks s⟩,
    fun q _ s => exec_clearNotices_outOfRange q s,
    fun q _ _ level enable s hg => exec_setNoticeLevels q level enable s (groupOf_of_mem hg),
    fun q _ level enable s => exec_setNoticeLevels_outOfRange q level enable s⟩

/-! ## The attention value (R157, R158) -/

theorem Group.mem_all (g : Group) : g ∈ Group.all := by cases g <;> decide

theorem NoticeFlags.anyOf_iff {f : NoticeFlags} {g : Option Group} :
    f.anyOf g = true ↔ ∃ n : Notice, f.get n = true ∧ n.group = g := by
  simp [NoticeFlags.anyOf, NoticeFlags.kinds, Notice.mem_all]

/-- What a set kind of a group contributes: 4 in the urgent group, else the group's level if it is enabled (R157). -/
def levelOf (t : PerGroup GroupSetting) : Option Group → Nat
  | none => 4
  | some g => if (t.get g).enabled then (t.get g).level else 0

theorem contribution_eq (t : PerGroup GroupSetting) (f : NoticeFlags) (n : Notice) :
    contribution t f n = if f.get n then levelOf t n.group else 0 := by
  unfold contribution levelOf
  cases n.group <;> rfl

theorem urgentLevel_eq (t : PerGroup GroupSetting) (f : NoticeFlags) :
    urgentLevel f = if f.anyOf none then levelOf t none else 0 := rfl

theorem groupLevel_eq (t : PerGroup GroupSetting) (f : NoticeFlags) (g : Group) :
    groupLevel t f g = if f.anyOf (some g) then levelOf t (some g) else 0 := by
  unfold groupLevel levelOf
  cases he : (t.get g).enabled <;> simp [he]

/-- A group's level is bounded by what bounds the contributions of its kinds. -/
theorem levelOf_anyOf_le_iff {t : PerGroup GroupSetting} {f : NoticeFlags} {g : Option Group} {m : Nat} :
    (if f.anyOf g then levelOf t g else 0) ≤ m ↔ ∀ n : Notice, n.group = g → contribution t f n ≤ m := by
  constructor
  · rintro h n rfl
    rw [contribution_eq]
    split
    · next hn => rwa [if_pos (NoticeFlags.anyOf_iff.2 ⟨n, hn, rfl⟩)] at h
    · exact Nat.zero_le m
  · intro h
    split
    · next hg =>
      obtain ⟨n, hn, rfl⟩ := NoticeFlags.anyOf_iff.1 hg
      simpa only [contribution_eq, if_pos hn] using h n rfl
    · exact Nat.zero_le m

theorem foldl_max_le_iff {α : Type} (level : α → Nat) (l : List α) (a m : Nat) :
    l.foldl (fun b x => max b (level x)) a ≤ m ↔ a ≤ m ∧ ∀ x ∈ l, level x ≤ m := by
  induction l generalizing a with
  | nil => simp
  | cons x l ih => simp [ih, and_assoc]

/-- The attention value is the least bound of the contributions. -/
theorem attentionOf_le_iff {t : PerGroup GroupSetting} {f : NoticeFlags} {m : Nat} :
    attentionOf t f ≤ m ↔ ∀ n : Notice, contribution t f n ≤ m := by
  rw [attentionOf, foldl_max_le_iff, urgentLevel_eq t]
  simp only [groupLevel_eq, levelOf_anyOf_le_iff]
  constructor
  · rintro ⟨urgent, ordinary⟩ n
    cases hg : n.group with
    | none => exact urgent n hg
    | some g => exact ordinary g g.mem_all n hg
  · exact fun h => ⟨fun n _ => h n, fun _ _ n _ => h n⟩

/-- With the groups in their ranges a kind contributes at most 4 (R157). -/
theorem contribution_le_four {t : PerGroup GroupSetting} (h : ∀ g, (t.get g).ok = true) (f : NoticeFlags)
    (n : Notice) : contribution t f n ≤ 4 := by
  unfold contribution
  cases n.group with
  | none =>
    dsimp only
    split <;> omega
  | some g =>
    have level : (t.get g).level ≤ 3 := of_decide_eq_true (h g)
    dsimp only
    split_ifs <;> omega

/-- Settles O47: the attention value is the least bound of the contributions (`attentionOf_le_iff`), so one of them is
equal to it unless it is 0: else its predecessor would bound them too. -/
theorem attentionIsTheHighestContribution : Obligations.AttentionIsTheHighestContribution := by
  intro s
  have bound : ∀ n : Notice, contribution s.tables.groups s.notices n ≤ attention s :=
    attentionOf_le_iff.1 (Nat.le_refl _)
  refine ⟨bound, ?_, fun ok => ?_⟩
  · by_contra! unattained
    obtain ⟨positive, differs⟩ := unattained
    have below : attention s ≤ attention s - 1 :=
      attentionOf_le_iff.2 fun n => Nat.le_sub_one_of_lt (lt_of_le_of_ne (bound n) (differs n))
    omega
  · exact attentionOf_le_iff.2 fun n => contribution_le_four ((Tables.ok_iff _).1 ok).groups s.notices n

end Sys2Proof.Machine
end

section
/-! The requests that change a stored table during a save (R166, R167), and the invariants at the first reset (R178). -/

namespace Sys2Proof.Machine

/-! ## Requests in a save (R166, R167) -/

/-- A request that changes a stored table is refused BUSY while a save is in flight (R167). -/
theorem exec_busy {i : Instr} {code : Byte} {s : State} (hc : managementCode i = some code)
    (stored : changesTables i = true) (saving : s.save.isSome = true) :
    exec i s = .next (answered (requester i) code .busy [] s s) := by
  have plain : ∀ q n, i ≠ .restartSegment q n := by
    rintro q n rfl
    exact Bool.false_ne_true stored
  rw [exec_manage hc plain, manage_next, stored, saving]
  rfl

/-- Settles O7: each marked code is the code of a request that changes a stored table, which is BUSY in a save. -/
theorem markedRequestsAreBusyDuringASave : Obligations.MarkedRequestsAreBusyDuringASave := by
  intro i code s hc marked saving
  have stored : changesTables i = true := by
    cases i
    all_goals cases hc
    all_goals first
      | rfl
      | exact absurd marked (by decide)
  exact exec_busy hc stored saving

/-! ## The first reset (R178) -/

theorem reset_context (h : Hoist) : State.reset.contexts.get h = Context.initial := by cases h <;> rfl

/-- No hoist holds a tag after the first reset (R100). -/
theorem reset_noTag {h : Hoist} {x : TagArgs} : (State.reset.contexts.get h).tag ≠ some x := by
  rw [reset_context]
  exact nofun

/-- Both contexts are IDLE, without tag, place, partner or claim, so the law of the dips asks nothing of the zones. -/
theorem reset_dipLaw : DipLaw State.reset where
  matched h := by rw [reset_context]; rfl
  placed h := by rw [reset_context]; rfl
  linked h := by rw [reset_context]; rfl
  owned _ _ _ ht := absurd ht reset_noTag
  waits _ hw := nomatch hw

theorem reset_alikeLaw : AlikeLaw State.reset where
  pair _ := rfl
  pending h hp := by
    rw [reset_context] at hp
    nomatch hp

/-- Settles O4: the laws of the dips hold of two IDLE contexts, the stored tables are those that start-up takes from no
image (`startTables_inRange`), and the rest stands in `State.reset`. -/
theorem resetMeetsTheInvariants : Obligations.ResetMeetsTheInvariants := by
  have tables : State.reset.tables.ok = true := (Tables.ok_iff _).2 (startTables_inRange none false)
  refine ⟨(dipsOk_iff _).2 ⟨reset_dipLaw, by decide⟩, (pairsAlike_iff _).2 reset_alikeLaw,
    (tagsNameTables_iff _).2 fun _ _ ht => absurd ht reset_noTag,
    (tagZonesOk_iff _).2 ⟨reset_dipLaw.matched, fun _ _ ht => absurd ht reset_noTag⟩, rfl,
    (massesInRange_iff _).2 fun h => ?_, (zerosInFence_iff _).2 fun h => ?_, by rw [storedOk, tables]; rfl,
    rfl, rfl, (portTimersOk_iff _).2 fun p => ?_, (appliedOk_iff _).2 fun h => ?_⟩
  · cases h <;> exact nofun
  · cases h <;> exact nofun
  · cases p <;> rfl
  · cases h <;> rfl

end Sys2Proof.Machine
end

section
/-! The payload of every management request is read back as that request (R167, R182): rules for one field of a payload,
the records a payload holds, and the requests. -/

namespace Sys2Proof.Machine

/-! ## One field of a payload (R182) -/

/-- The bytes before a field are passed over. -/
@[simp] theorem fieldNat_skip {before : List Byte} (rest : List Byte) {i : Nat} (w : Nat) (h : before.length ≤ i) :
    fieldNat (before ++ rest) i w = fieldNat rest (i - before.length) w := by
  conv_lhs => rw [← Nat.add_sub_cancel' h, fieldNat_append]

@[simp] theorem fieldInt_skip {before : List Byte} (rest : List Byte) {i : Nat} (w : Nat) (h : before.length ≤ i) :
    fieldInt (before ++ rest) i w = fieldInt rest (i - before.length) w := by
  rw [fieldInt, fieldNat_skip rest w h, fieldInt]

/-- One byte that is a field of its own is passed over. -/
theorem fieldNat_cons (b : Byte) (rest : List Byte) (i w : Nat) :
    fieldNat (b :: rest) (i + 1) w = fieldNat rest i w := rfl

/-- A field that ends its payload. -/
@[simp] theorem fieldNat_last {w n : Nat} (h : fitsNat w n = true) : fieldNat (beBytes w n) 0 w = n := by
  simpa using fieldNat_front w n [] h

@[simp] theorem fieldInt_last {w : Nat} {x : Int} (hw : 0 < w) (h : fitsInt w x = true) :
    fieldInt (beInt w x) 0 w = x := by
  simpa using fieldInt_front w x [] hw h

/-! ## The records of a payload -/

theorem decodeCal_calBytes (n : Nat) {x : CalRecord} (h : x.fits = true) :
    decodeCal (beBytes 1 n ++ calBytes x) = x := by
  simp only [CalRecord.fits, Bool.and_eq_true] at h
  simp [decodeCal, calBytes, fieldNat_front, fieldInt_front, h]

theorem decodeProfile_profileItems (n : Nat) {x : Profile} (h : x.fits = true) :
    decodeProfile (beBytes 1 n ++ (profileItems x).flatten) = x := by
  simp only [Profile.fits, Bool.and_eq_true] at h
  simp [decodeProfile, profileItems, fieldNat_front, h]

theorem decodeTag_tagBytes {x : TagArgs} (h : x.fits = true) : decodeTag (tagBytes x) = x := by
  simp only [TagArgs.fits, Bool.and_eq_true] at h
  simp [decodeTag, tagBytes, fieldNat_front, h]

@[simp] theorem length_zoneBytes (x : ZoneArgs) : (zoneBytes x).length = 5 := by simp [zoneBytes]

/-- A zone record behind the bytes before it. -/
theorem decodeZone_skip {before : List Byte} (rest : List Byte) {i : Nat} (h : before.length ≤ i) :
    decodeZone (before ++ rest) i = decodeZone rest (i - before.length) := by
  have shift (k : Nat) : i + k - before.length = i - before.length + k := Nat.sub_add_comm h
  have later (k : Nat) : before.length ≤ i + k := h.trans (Nat.le_add_right i k)
  simp only [decodeZone, fieldNat_skip, fieldInt_skip, shift, later, h]

theorem decodeZone_front {x : ZoneArgs} (rest : List Byte) (h : x.fits = true) :
    decodeZone (zoneBytes x ++ rest) 0 = x := by
  simp only [ZoneArgs.fits, Bool.and_eq_true] at h
  simp [decodeZone, zoneBytes, fieldNat_front, fieldInt_front, h]

/-- The kinds of CLEAR NOTICES are bytes, each its own number (R161). -/
theorem kinds_of_bytes {ks : List Nat} (h : ks.all (fitsNat 1) = true) :
    (ks.map (BitVec.ofNat 8)).map BitVec.toNat = ks := by
  have byte : ∀ k ∈ ks, (BitVec.toNat ∘ BitVec.ofNat 8) k = id k := fun k hk =>
    Nat.mod_eq_of_lt (of_decide_eq_true (List.all_eq_true.1 h k hk))
  rw [List.map_map, List.map_congr_left byte, List.map_id]

/-! ## The requests -/

/-- The form check admits the payload of every request that the wire can spell (R167). -/
theorem admits_managementPayload {i : Instr} {code : Byte} (wf : i.wellFormed = true)
    (hc : managementCode i = some code) : admits code (managementPayload i).length = true := by
  cases i
  all_goals cases hc
  case clearNotices q ks =>
    simp only [Instr.wellFormed, Bool.and_eq_true] at wf
    rw [managementPayload, List.length_map]
    exact wf.1
  all_goals rfl

/-- Settles O10: the form check admits the payload, and behind it each record and each number is read back by its own
rule. -/
theorem managementRequestsRoundTrip : Obligations.ManagementRequestsRoundTrip := by
  intro i code wf hc
  rw [decodeManagement, if_pos (admits_managementPayload wf hc)]
  cases i
  all_goals cases hc
  all_goals simp only [Instr.wellFormed, Bool.and_eq_true] at wf
  case clearNotices q ks => exact congrArg (fun ks => some (Instr.clearNotices q ks)) (kinds_of_bytes wf.2)
  case loadWindows q wa wb wk =>
    simp only [Window.fits, Bool.and_eq_true] at wf
    simp [managementPayload, requester, decodeWindow, fieldNat_front, wf]
  case loadTrap q n x =>
    simp [managementPayload, requester, decodeTrap, fieldByte, fieldNat_cons, fieldNat_front, wf]
  case loadHoistSettings q n x =>
    simp [managementPayload, requester, decodeHoist, fieldNat_front, fieldInt_front, wf]
  case loadCalibration q n x => simp [managementPayload, requester, decodeCal_calBytes, fieldNat_front, wf]
  case loadProfile q n x => simp [managementPayload, requester, decodeProfile_profileItems, fieldNat_front, wf]
  case tagLoad q x => simp [managementPayload, requester, decodeTag_tagBytes, wf]
  case loadZoneMap q x =>
    simp [managementPayload, requester, decodeZoneMap, decodeZone_skip, decodeZone_front, fieldNat_front,
      fieldInt_front, wf]
  case loadBathSettings q x => simp [managementPayload, requester, decodeBath, fieldNat_front, wf]
  -- every other payload holds numbers alone, or nothing
  all_goals simp [managementPayload, requester, pageAt, fieldNat_front, wf]

end Sys2Proof.Machine
end

section
/-! The pages of a reading as a cut of its items (R183): which items stand on each page, and that each page is full. -/

namespace Sys2Proof.Machine

/-! ## The cut of the items into pages -/

/-- The items of each page, `page` holding those of the page begun: `paginate` before the bytes of a page are joined. -/
def cutItems : List Item → List Item → List (List Item)
  | [], page => [page]
  | it :: rest, page =>
    if page.flatten.length + it.length ≤ Config.pageBytes then cutItems rest (page ++ [it])
    else page :: cutItems rest [it]

/-- No page begins with an item that the page before it could still hold. -/
def FullBefore (page next : List Item) : Prop :=
  ∀ x, next.head? = some x → Config.pageBytes < page.flatten.length + x.length

/-- The pages are the joined items of the cut. -/
theorem map_flatten_cutItems (items page : List Item) :
    (cutItems items page).map List.flatten = paginate items page.flatten := by
  fun_induction cutItems items page with
  | case1 => rfl
  | case2 it rest page fits ih => rw [ih, paginate, if_pos fits, List.flatten_concat]
  | case3 it rest page full ih => rw [List.map_cons, ih, paginate, if_neg full, List.flatten_singleton]

/-- No item is lost, repeated, moved or cut in two. -/
theorem flatten_cutItems (items page : List Item) : (cutItems items page).flatten = page ++ items := by
  fun_induction cutItems items page with
  | case1 page => rw [List.flatten_singleton, List.append_nil]
  | case2 it rest page fits ih => rw [ih, List.append_assoc, List.singleton_append]
  | case3 it rest page full ih => rw [List.flatten_cons, ih, List.singleton_append]

/-- A page keeps the item it began with. -/
theorem head_of_head_cutItems {it : Item} {items page first : List Item} (begun : page.head? = some it)
    (h : (cutItems items page).head? = some first) : first.head? = some it := by
  fun_induction cutItems items page with
  | case1 page =>
    cases h
    exact begun
  | case2 next rest page fits ih => exact ih (by rw [List.head?_append, begun, Option.some_or]) h
  | case3 next rest page full ih =>
    cases h
    exact begun

/-- Each page but the last is full. -/
theorem cutItems_isChain (items page : List Item) : (cutItems items page).IsChain FullBefore := by
  fun_induction cutItems items page with
  | case1 page => exact .singleton page
  | case2 it rest page fits ih => exact ih
  | case3 it rest page full ih =>
    refine ih.cons fun next hnext x hx => ?_
    obtain rfl : it = x := Option.some.inj ((head_of_head_cutItems rfl hnext).symm.trans hx)
    exact Nat.lt_of_not_le full

/-! ## The pages -/

/-- No page is too long where neither the page begun nor any item is. -/
theorem length_le_of_mem_paginate {items : List Item} {page : Item} (short : ∀ x ∈ items, x.length ≤ Config.pageBytes)
    (begun : page.length ≤ Config.pageBytes) : ∀ body ∈ paginate items page, body.length ≤ Config.pageBytes := by
  fun_induction paginate items page with
  | case1 page => exact List.forall_mem_singleton.2 begun
  | case2 it rest page fits ih =>
    exact ih (List.forall_mem_cons.1 short).2 (by rwa [List.length_append])
  | case3 it rest page full ih =>
    obtain ⟨hit, hrest⟩ := List.forall_mem_cons.1 short
    exact List.forall_mem_cons.2 ⟨begun, ih hrest hit⟩

/-- Settles O50: the cut is `cutItems`, whose joined pages are the pages of the reading (`map_flatten_cutItems`). -/
theorem pagesHoldWholeItems : Obligations.PagesHoldWholeItems := by
  intro items short
  have whole : (cutItems items []).flatten = items := flatten_cutItems items []
  have pages : (cutItems items []).map List.flatten = pagesOf items := map_flatten_cutItems items []
  refine ⟨?_, length_le_of_mem_paginate short (Nat.zero_le _), cutItems items [], whole, pages, ?_⟩
  · rw [← pages, ← List.flatten_flatten, whole]
  · intro i a b x ha hb hx
    obtain ⟨hi, rfl⟩ := List.getElem?_eq_some_iff.1 ha
    obtain ⟨hnext, rfl⟩ := List.getElem?_eq_some_iff.1 hb
    exact (cutItems_isChain items []).getElem i hnext x hx

end Sys2Proof.Machine
end

section
/-! The command at the front of the queue: what a step does where the queue is not empty. -/

namespace Sys2Proof.Machine

/-- The branch of `step` for a queue that holds a command. -/
theorem step_of_pending_cons {s : State} {c : Instr} {rest : List Instr} (h : s.pending = c :: rest) :
    step s = exec c { s with pending := rest } := by
  rw [step, h]

/-- Settles O1: the queue's rest takes the place of the whole queue, whatever the queue was before
(`step_of_pending_cons`). -/
theorem stepRunsTheFrontCommand : Obligations.StepRunsTheFrontCommand :=
  fun _ _ _ => step_of_pending_cons rfl

end Sys2Proof.Machine
end
